-- ==== Sys2Proof/Word.lean ====
section
/-! DEFINITION. The word types of the BLDC-link codec and the records its operations pass around
(spec 10_state.md R27, R28; 20_memory.md R41; 00_scope.md R10). -/

namespace Sys2Proof

/-- The unit of transfer on the link: 8 bits (R41). -/
abbrev Byte := BitVec 8

/-- A 2-bit message type (R5, R27). -/
abbrev TypeCode := BitVec 2

/-- A 6-bit index (R27). -/
abbrev Index := BitVec 6

/-- A 16-bit payload; signed and unsigned are two readings of the same bits (R27). -/
abbrev Payload := BitVec 16

/-- Three bytes, first byte first: a packed message (R61). -/
structure Bytes3 where
  b0 : Byte
  b1 : Byte
  b2 : Byte
deriving DecidableEq, Repr

/-- Seven bytes, first byte first: a frame or a window (R62). -/
structure Bytes7 where
  b0 : Byte
  b1 : Byte
  b2 : Byte
  b3 : Byte
  b4 : Byte
  b5 : Byte
  b6 : Byte
deriving DecidableEq, Repr

/-- A message (R27). -/
structure Message where
  type : TypeCode
  index : Index
  payload : Payload
deriving DecidableEq, Repr

/-- What `MSG_DECODE` returns (R101): the fields are given also when `ok` is false. -/
structure DecodedMessage where
  type : TypeCode
  index : Index
  payload : Payload
  ok : Bool
deriving DecidableEq, Repr

/-- A frame record as `FRAME_DECODE` returns it (R28, R122). -/
structure FrameRecord where
  start : Byte
  messageBytes : Bytes3
  checksum : Byte
  endMarker : Byte
  terminator : Byte
  message : DecodedMessage
deriving DecidableEq, Repr

/-- The four validity flags, in the order of R208 (R123). -/
structure FrameFlags where
  startOk : Bool
  endOk : Bool
  cksumOk : Bool
  msgOk : Bool
deriving DecidableEq, Repr

/-- The four message types by name (R5); their codes stand in the configuration record (R8). -/
inductive MessageType where
  | response
  | status
  | writeRequest
  | readRequest
deriving DecidableEq, Repr

/-- A frame row of the opcode table: its type and index by name, and the fields its mask leaves free (R62, R67). -/
structure FrameRow where
  type : MessageType
  index : Index
  payload : Payload
  checksum : Byte
  terminator : Byte
deriving DecidableEq, Repr

/-- A bare message row of the opcode table (R61). -/
structure MessageRow where
  type : MessageType
  index : Index
  payload : Payload
deriving DecidableEq, Repr

/-- The fields of a frame that its two markers do not fix (R62). -/
structure FrameFields where
  id : Byte
  payload : Payload
  checksum : Byte
  terminator : Byte
deriving DecidableEq, Repr

end Sys2Proof
end

