-- ==== Sys2Proof/Config.lean ====
section
/-! DEFINITION. The wire constants and the two index enumerations as ONE record, with the values of
this hardware as its instance (spec 00_scope.md R4 to R9, 70_reset_and_hazards.md R242). No other file of the
model writes one of these values: the machine reads the record that its state holds. -/

namespace Sys2Proof.Config

/-- The configuration record that R8 asks for. -/
structure WireConfig where
  /-- `START`, the first byte of a frame. -/
  start : Byte
  /-- `END`, the sixth byte of a frame. -/
  endMarker : Byte
  /-- `TERM`, the seventh byte of a frame. -/
  term : Byte
  /-- The four type codes of R5. -/
  response : TypeCode
  status : TypeCode
  writeRequest : TypeCode
  readRequest : TypeCode
  /-- `PARAM_INDEX` (R6). -/
  paramIndex : List Index
  /-- `STATUS_INDEX` (R7). -/
  statusIndex : List Index
  /-- `MSG_LEN` (R4). -/
  msgLen : Nat
  /-- `FRAME_LEN` (R4). -/
  frameLen : Nat
deriving DecidableEq, Repr

/-- The code of a type (R5). -/
def WireConfig.code (c : WireConfig) (type : MessageType) : TypeCode :=
  match type with
  | .response => c.response
  | .status => c.status
  | .writeRequest => c.writeRequest
  | .readRequest => c.readRequest

/-- The type of a code: where the four codes are distinct every 2-bit value has its own (R5, R8). -/
def WireConfig.typeOf (c : WireConfig) (code : TypeCode) : MessageType :=
  if code = c.response then .response
  else if code = c.status then .status
  else if code = c.writeRequest then .writeRequest
  else .readRequest

/-- What the rules use of the record beyond its types (R8): the four type codes are the four distinct 2-bit
values, and `FRAME_LEN = 1 + MSG_LEN + 3 = 7`. -/
def WireConfig.wf (c : WireConfig) : Bool :=
  [c.response, c.status, c.writeRequest, c.readRequest].Nodup && c.msgLen == 3 && c.frameLen == 1 + c.msgLen + 3

/-- The values of this hardware (R4, R5, R6, R7). UNVERIFIED: R8 calls the literals unaudited
(log entry 15). -/
def hw : WireConfig where
  start := 0x3A
  endMarker := 0x3B
  term := 0x0A
  response := 0
  status := 1
  writeRequest := 2
  readRequest := 3
  paramIndex :=
    [0x00, 0x01, 0x02, 0x03, 0x04, 0x05, 0x06, 0x07, 0x08, 0x09, 0x0A, 0x0B, 0x0C, 0x0D, 0x0E, 0x0F, 0x10]
  statusIndex := [0x00, 0x01, 0x02, 0x10, 0x11, 0x12, 0x13, 0x14, 0x15, 0x3E, 0x3F]
  msgLen := 3
  frameLen := 7

/-- The one parameter index the source names: `VALUE_RPM` (R6, R75). -/
def valueRpm : Index := 0x07

/-- The default of the open parameter `MSGQ_CAP`: unbounded (R9, decision D6). -/
def defaultMsgqCap : Option Nat := none

end Sys2Proof.Config
end

