-- ==== Sys2Proof/Syntax.lean ====
section
/-! DEFINITION. The instructions: one constructor for each of the 95 rows of spec/opcode_table.json,
in the table's order (spec 30_encoding.md R66, R67, R76; 00_scope.md section 6). -/

namespace Sys2Proof

/-- The rows of the opcode table. A wire frame carries the fields that its row's mask leaves free, read
positionally (the checksum and the terminator too); an operation carries its operands. -/
inductive Instr where
  /-- `RESPONSE` (R185): a frame of this type, any index. -/
  | response (index : Index) (payload : Payload) (checksum terminator : Byte)
  /-- `STATUS` (R186): a frame of this type, any index. -/
  | status (index : Index) (payload : Payload) (checksum terminator : Byte)
  /-- `WRITE_REQUEST` (R187): a frame of this type, any index. -/
  | writeRequest (index : Index) (payload : Payload) (checksum terminator : Byte)
  /-- `READ_REQUEST` (R188): a frame of this type, any index. -/
  | readRequest (index : Index) (payload : Payload) (checksum terminator : Byte)
  /-- `RESPONSE.MSG` (R185): a packed message of this type. -/
  | responseMsg (index : Index) (payload : Payload)
  /-- `STATUS.MSG` (R186): a packed message of this type. -/
  | statusMsg (index : Index) (payload : Payload)
  /-- `WRITE_REQUEST.MSG` (R187): a packed message of this type. -/
  | writeRequestMsg (index : Index) (payload : Payload)
  /-- `READ_REQUEST.MSG` (R188): a packed message of this type. -/
  | readRequestMsg (index : Index) (payload : Payload)
  /-- `RESPONSE.0x00` (R185): frame with id byte 0x00. -/
  | response00 (payload : Payload) (checksum terminator : Byte)
  /-- `RESPONSE.0x01` (R185): frame with id byte 0x01. -/
  | response01 (payload : Payload) (checksum terminator : Byte)
  /-- `RESPONSE.0x02` (R185): frame with id byte 0x02. -/
  | response02 (payload : Payload) (checksum terminator : Byte)
  /-- `RESPONSE.0x03` (R185): frame with id byte 0x03. -/
  | response03 (payload : Payload) (checksum terminator : Byte)
  /-- `RESPONSE.0x04` (R185): frame with id byte 0x04. -/
  | response04 (payload : Payload) (checksum terminator : Byte)
  /-- `RESPONSE.0x05` (R185): frame with id byte 0x05. -/
  | response05 (payload : Payload) (checksum terminator : Byte)
  /-- `RESPONSE.0x06` (R185): frame with id byte 0x06. -/
  | response06 (payload : Payload) (checksum terminator : Byte)
  /-- `RESPONSE.0x07` (R185): frame with id byte 0x07. -/
  | response07 (payload : Payload) (checksum terminator : Byte)
  /-- `RESPONSE.0x08` (R185): frame with id byte 0x08. -/
  | response08 (payload : Payload) (checksum terminator : Byte)
  /-- `RESPONSE.0x09` (R185): frame with id byte 0x09. -/
  | response09 (payload : Payload) (checksum terminator : Byte)
  /-- `RESPONSE.0x0A` (R185): frame with id byte 0x0A. -/
  | response0A (payload : Payload) (checksum terminator : Byte)
  /-- `RESPONSE.0x0B` (R185): frame with id byte 0x0B. -/
  | response0B (payload : Payload) (checksum terminator : Byte)
  /-- `RESPONSE.0x0C` (R185): frame with id byte 0x0C. -/
  | response0C (payload : Payload) (checksum terminator : Byte)
  /-- `RESPONSE.0x0D` (R185): frame with id byte 0x0D. -/
  | response0D (payload : Payload) (checksum terminator : Byte)
  /-- `RESPONSE.0x0E` (R185): frame with id byte 0x0E. -/
  | response0E (payload : Payload) (checksum terminator : Byte)
  /-- `RESPONSE.0x0F` (R185): frame with id byte 0x0F. -/
  | response0F (payload : Payload) (checksum terminator : Byte)
  /-- `RESPONSE.0x10` (R185): frame with id byte 0x10. -/
  | response10 (payload : Payload) (checksum terminator : Byte)
  /-- `STATUS.0x00` (R186): frame with id byte 0x40. -/
  | status00 (payload : Payload) (checksum terminator : Byte)
  /-- `STATUS.0x01` (R186): frame with id byte 0x41. -/
  | status01 (payload : Payload) (checksum terminator : Byte)
  /-- `STATUS.0x02` (R186): frame with id byte 0x42. -/
  | status02 (payload : Payload) (checksum terminator : Byte)
  /-- `STATUS.0x10` (R186): frame with id byte 0x50. -/
  | status10 (payload : Payload) (checksum terminator : Byte)
  /-- `STATUS.0x11` (R186): frame with id byte 0x51. -/
  | status11 (payload : Payload) (checksum terminator : Byte)
  /-- `STATUS.0x12` (R186): frame with id byte 0x52. -/
  | status12 (payload : Payload) (checksum terminator : Byte)
  /-- `STATUS.0x13` (R186): frame with id byte 0x53. -/
  | status13 (payload : Payload) (checksum terminator : Byte)
  /-- `STATUS.0x14` (R186): frame with id byte 0x54. -/
  | status14 (payload : Payload) (checksum terminator : Byte)
  /-- `STATUS.0x15` (R186): frame with id byte 0x55. -/
  | status15 (payload : Payload) (checksum terminator : Byte)
  /-- `STATUS.0x3E` (R186): frame with id byte 0x7E. -/
  | status3E (payload : Payload) (checksum terminator : Byte)
  /-- `STATUS.0x3F` (R186): frame with id byte 0x7F. -/
  | status3F (payload : Payload) (checksum terminator : Byte)
  /-- `WRITE_REQUEST.0x00` (R187): frame with id byte 0x80. -/
  | writeRequest00 (payload : Payload) (checksum terminator : Byte)
  /-- `WRITE_REQUEST.0x01` (R187): frame with id byte 0x81. -/
  | writeRequest01 (payload : Payload) (checksum terminator : Byte)
  /-- `WRITE_REQUEST.0x02` (R187): frame with id byte 0x82. -/
  | writeRequest02 (payload : Payload) (checksum terminator : Byte)
  /-- `WRITE_REQUEST.0x03` (R187): frame with id byte 0x83. -/
  | writeRequest03 (payload : Payload) (checksum terminator : Byte)
  /-- `WRITE_REQUEST.0x04` (R187): frame with id byte 0x84. -/
  | writeRequest04 (payload : Payload) (checksum terminator : Byte)
  /-- `WRITE_REQUEST.0x05` (R187): frame with id byte 0x85. -/
  | writeRequest05 (payload : Payload) (checksum terminator : Byte)
  /-- `WRITE_REQUEST.0x06` (R187): frame with id byte 0x86. -/
  | writeRequest06 (payload : Payload) (checksum terminator : Byte)
  /-- `WRITE_REQUEST.0x07` (R187): frame with id byte 0x87. -/
  | writeRequest07 (payload : Payload) (checksum terminator : Byte)
  /-- `WRITE_REQUEST.0x08` (R187): frame with id byte 0x88. -/
  | writeRequest08 (payload : Payload) (checksum terminator : Byte)
  /-- `WRITE_REQUEST.0x09` (R187): frame with id byte 0x89. -/
  | writeRequest09 (payload : Payload) (checksum terminator : Byte)
  /-- `WRITE_REQUEST.0x0A` (R187): frame with id byte 0x8A. -/
  | writeRequest0A (payload : Payload) (checksum terminator : Byte)
  /-- `WRITE_REQUEST.0x0B` (R187): frame with id byte 0x8B. -/
  | writeRequest0B (payload : Payload) (checksum terminator : Byte)
  /-- `WRITE_REQUEST.0x0C` (R187): frame with id byte 0x8C. -/
  | writeRequest0C (payload : Payload) (checksum terminator : Byte)
  /-- `WRITE_REQUEST.0x0D` (R187): frame with id byte 0x8D. -/
  | writeRequest0D (payload : Payload) (checksum terminator : Byte)
  /-- `WRITE_REQUEST.0x0E` (R187): frame with id byte 0x8E. -/
  | writeRequest0E (payload : Payload) (checksum terminator : Byte)
  /-- `WRITE_REQUEST.0x0F` (R187): frame with id byte 0x8F. -/
  | writeRequest0F (payload : Payload) (checksum terminator : Byte)
  /-- `WRITE_REQUEST.0x10` (R187): frame with id byte 0x90. -/
  | writeRequest10 (payload : Payload) (checksum terminator : Byte)
  /-- `READ_REQUEST.0x00` (R188): frame with id byte 0xC0. -/
  | readRequest00 (payload : Payload) (checksum terminator : Byte)
  /-- `READ_REQUEST.0x01` (R188): frame with id byte 0xC1. -/
  | readRequest01 (payload : Payload) (checksum terminator : Byte)
  /-- `READ_REQUEST.0x02` (R188): frame with id byte 0xC2. -/
  | readRequest02 (payload : Payload) (checksum terminator : Byte)
  /-- `READ_REQUEST.0x03` (R188): frame with id byte 0xC3. -/
  | readRequest03 (payload : Payload) (checksum terminator : Byte)
  /-- `READ_REQUEST.0x04` (R188): frame with id byte 0xC4. -/
  | readRequest04 (payload : Payload) (checksum terminator : Byte)
  /-- `READ_REQUEST.0x05` (R188): frame with id byte 0xC5. -/
  | readRequest05 (payload : Payload) (checksum terminator : Byte)
  /-- `READ_REQUEST.0x06` (R188): frame with id byte 0xC6. -/
  | readRequest06 (payload : Payload) (checksum terminator : Byte)
  /-- `READ_REQUEST.0x07` (R188): frame with id byte 0xC7. -/
  | readRequest07 (payload : Payload) (checksum terminator : Byte)
  /-- `READ_REQUEST.0x08` (R188): frame with id byte 0xC8. -/
  | readRequest08 (payload : Payload) (checksum terminator : Byte)
  /-- `READ_REQUEST.0x09` (R188): frame with id byte 0xC9. -/
  | readRequest09 (payload : Payload) (checksum terminator : Byte)
  /-- `READ_REQUEST.0x0A` (R188): frame with id byte 0xCA. -/
  | readRequest0A (payload : Payload) (checksum terminator : Byte)
  /-- `READ_REQUEST.0x0B` (R188): frame with id byte 0xCB. -/
  | readRequest0B (payload : Payload) (checksum terminator : Byte)
  /-- `READ_REQUEST.0x0C` (R188): frame with id byte 0xCC. -/
  | readRequest0C (payload : Payload) (checksum terminator : Byte)
  /-- `READ_REQUEST.0x0D` (R188): frame with id byte 0xCD. -/
  | readRequest0D (payload : Payload) (checksum terminator : Byte)
  /-- `READ_REQUEST.0x0E` (R188): frame with id byte 0xCE. -/
  | readRequest0E (payload : Payload) (checksum terminator : Byte)
  /-- `READ_REQUEST.0x0F` (R188): frame with id byte 0xCF. -/
  | readRequest0F (payload : Payload) (checksum terminator : Byte)
  /-- `READ_REQUEST.0x10` (R188): frame with id byte 0xD0. -/
  | readRequest10 (payload : Payload) (checksum terminator : Byte)
  /-- `MSG_ENCODE` (R100): operation. -/
  | msgEncode (type : TypeCode) (index : Index) (payload : Payload)
  /-- `MSG_DECODE` (R101): operation. -/
  | msgDecode (bytes : Bytes3)
  /-- `INDEX_KNOWN` (R102): operation. -/
  | indexKnown (type : TypeCode) (index : Index)
  /-- `PAYLOAD_U` (R103): operation. -/
  | payloadU (payload : Payload)
  /-- `PAYLOAD_S` (R104): operation. -/
  | payloadS (payload : Payload)
  /-- `PAYLOAD_FROM_INT` (R105): operation. -/
  | payloadFromInt (n : Int) (signed : Bool)
  /-- `XOR8` (R120): operation. -/
  | xor8 (bytes : Bytes3)
  /-- `FRAME_ENCODE` (R121): operation. -/
  | frameEncode (bytes : Bytes3)
  /-- `FRAME_DECODE` (R122): operation. -/
  | frameDecode (window : Bytes7)
  /-- `FRAME_STATUS` (R123): operation. -/
  | frameStatus (window : Bytes7)
  /-- `FRAME_ISVALID` (R124): operation. -/
  | frameIsvalid (window : Bytes7)
  /-- `RX_APPEND` (R141): operation. -/
  | rxAppend (chunk : List Byte)
  /-- `RX_SCAN` (R142): operation. -/
  | rxScan
  /-- `RX_SCAN.SHORT` (R143): operation. -/
  | rxScanShort
  /-- `RX_SCAN.DISCARD` (R144): operation. -/
  | rxScanDiscard
  /-- `RX_SCAN.WAIT` (R145): operation. -/
  | rxScanWait
  /-- `RX_SCAN.EMIT` (R146): operation. -/
  | rxScanEmit
  /-- `RX_SCAN.RESYNC` (R147): operation. -/
  | rxScanResync
  /-- `RX_PASS` (R148): operation. -/
  | rxPass (chunk : List Byte)
  /-- `MSGQ_POP` (R149): operation. -/
  | msgqPop
  /-- `TX_SEND` (R170): operation. -/
  | txSend (type : TypeCode) (index : Index) (payload : Payload)
  /-- `TX_SEND.CLOSED` (R171): operation. -/
  | txSendClosed (type : TypeCode) (index : Index) (payload : Payload)
  /-- `LINK_OPEN` (R172): operation. -/
  | linkOpen (answer : Bool)
  /-- `LINK_CLOSE` (R173): operation. -/
  | linkClose
  /-- `RESET` (R174): operation. -/
  | reset
deriving DecidableEq, Repr

end Sys2Proof
end

