-- ==== Sys2Proof/Machine/Operands.lean ====
section
/-! DEFINITION. The operand forms of the block: assembling and splitting the id byte, the payload, the
message and the frame, the payload readings, the checksum (spec 30_encoding.md section 2,
40_message_codec.md, 41_frame_codec.md). Pure functions over any configuration record (R8). -/

namespace Sys2Proof.Machine

open Sys2Proof.Config

/-- The bytes of a packed message, first byte first (R10). -/
def bytes3List (b : Bytes3) : List Byte := [b.b0, b.b1, b.b2]

/-- The bytes of a frame or window, first byte first (R10, R43). -/
def bytes7List (w : Bytes7) : List Byte := [w.b0, w.b1, w.b2, w.b3, w.b4, w.b5, w.b6]

/-- `payload[15:8]` (R64). -/
def payloadHi (p : Payload) : Byte := p.extractLsb' 8 8

/-- `payload[7:0]` (R64). -/
def payloadLo (p : Payload) : Byte := p.extractLsb' 0 8

/-- The payload of its two bytes, most significant byte first (R42, R64). -/
def payloadOf (hi lo : Byte) : Payload := (hi.setWidth 16 <<< 8) ||| lo.setWidth 16

/-- The id byte `(type << 6) | (index & 0x3F)` (R63). -/
def idByte (type : TypeCode) (index : Index) : Byte :=
  (type.setWidth 8 <<< 6) ||| (index.setWidth 8 &&& 0x3F)

/-- `id >> 6`, 2 bits (R63). -/
def idType (id : Byte) : TypeCode := (id >>> 6).setWidth 2

/-- `id & 0x3F`, 6 bits (R63). -/
def idIndex (id : Byte) : Index := (id &&& 0x3F).setWidth 6

/-- `MSG_ENCODE` (R100). Total: the index is not tested (decision D11). -/
def packMessage (type : TypeCode) (index : Index) (payload : Payload) : Bytes3 :=
  ⟨idByte type index, payloadHi payload, payloadLo payload⟩

/-- `INDEX_KNOWN` (R102). -/
def isKnownIndex (c : WireConfig) (type : TypeCode) (index : Index) : Bool :=
  if type = c.status then c.statusIndex.contains index else c.paramIndex.contains index

/-- `MSG_DECODE` (R101). Total: the fields are given also when `ok` is false. -/
def unpackMessage (c : WireConfig) (b : Bytes3) : DecodedMessage where
  type := idType b.b0
  index := idIndex b.b0
  payload := payloadOf b.b1 b.b2
  ok := isKnownIndex c (idType b.b0) (idIndex b.b0)

/-- The message record of a decoded message (R146: it carries no trace of the frame). -/
def messageOf (d : DecodedMessage) : Message := ⟨d.type, d.index, d.payload⟩

/-- `PAYLOAD_U`, the unsigned reading (R103). -/
def unsignedReading (p : Payload) : Nat := p.toNat

/-- `PAYLOAD_S`, the signed reading (R104). PRESUMED: two's complement is the spec's general knowledge G1
(log entry 13). -/
def signedReading (p : Payload) : Int :=
  if p.msb then (p.toNat : Int) - 65536 else (p.toNat : Int)

/-- The domain of `PAYLOAD_FROM_INT` (R105, decision D27). -/
def inReading (n : Int) (signed : Bool) : Bool :=
  if signed then decide (-32768 ≤ n ∧ n ≤ 32767) else decide (0 ≤ n ∧ n ≤ 65535)

/-- `PAYLOAD_FROM_INT` (R105): the 16 bits whose chosen reading is `n`; none outside its domain. -/
def payloadFromReading (n : Int) (signed : Bool) : Option Payload :=
  if inReading n signed then some (BitVec.ofInt 16 n) else none

/-- `XOR8`, the running XOR from zero (R120). -/
def checksum8 (b : Bytes3) : Byte := ((0x00 ^^^ b.b0) ^^^ b.b1) ^^^ b.b2

/-- `FRAME_ENCODE` (R121). -/
def packFrame (c : WireConfig) (mb : Bytes3) : Bytes7 :=
  ⟨c.start, mb.b0, mb.b1, mb.b2, checksum8 mb, c.endMarker, c.term⟩

/-- The shorthand `FRAME_OF` (R121). -/
def frameOf (c : WireConfig) (m : Message) : Bytes7 :=
  packFrame c (packMessage m.type m.index m.payload)

/-- The 3 message bytes of a window (R62). -/
def windowMessage (w : Bytes7) : Bytes3 := ⟨w.b1, w.b2, w.b3⟩

/-- `FRAME_DECODE` (R122): positional, never fails. -/
def unpackFrame (c : WireConfig) (w : Bytes7) : FrameRecord where
  start := w.b0
  messageBytes := windowMessage w
  checksum := w.b4
  endMarker := w.b5
  terminator := w.b6
  message := unpackMessage c (windowMessage w)

/-- The 7 bytes of a frame row: the two markers around its fields (R62, R73). -/
def rowWindow (c : WireConfig) (f : FrameFields) : Bytes7 :=
  ⟨c.start, f.id, payloadHi f.payload, payloadLo f.payload, f.checksum, c.endMarker, f.terminator⟩

/-- The fields of a window that lie between and behind its markers. -/
def windowFields (w : Bytes7) : FrameFields :=
  ⟨w.b1, payloadOf w.b2 w.b3, w.b4, w.b6⟩

/-- The type, the index and the free fields that a frame row stands for; none for a row of another format (R67). The
index of a per-id row is the one in its mnemonic. -/
def frameRow? (i : Instr) : Option FrameRow :=
  match i with
  | .response index payload checksum terminator => some ⟨.response, index, payload, checksum, terminator⟩
  | .status index payload checksum terminator => some ⟨.status, index, payload, checksum, terminator⟩
  | .writeRequest index payload checksum terminator => some ⟨.writeRequest, index, payload, checksum, terminator⟩
  | .readRequest index payload checksum terminator => some ⟨.readRequest, index, payload, checksum, terminator⟩
  | .response00 payload checksum terminator => some ⟨.response, 0x00, payload, checksum, terminator⟩
  | .response01 payload checksum terminator => some ⟨.response, 0x01, payload, checksum, terminator⟩
  | .response02 payload checksum terminator => some ⟨.response, 0x02, payload, checksum, terminator⟩
  | .response03 payload checksum terminator => some ⟨.response, 0x03, payload, checksum, terminator⟩
  | .response04 payload checksum terminator => some ⟨.response, 0x04, payload, checksum, terminator⟩
  | .response05 payload checksum terminator => some ⟨.response, 0x05, payload, checksum, terminator⟩
  | .response06 payload checksum terminator => some ⟨.response, 0x06, payload, checksum, terminator⟩
  | .response07 payload checksum terminator => some ⟨.response, 0x07, payload, checksum, terminator⟩
  | .response08 payload checksum terminator => some ⟨.response, 0x08, payload, checksum, terminator⟩
  | .response09 payload checksum terminator => some ⟨.response, 0x09, payload, checksum, terminator⟩
  | .response0A payload checksum terminator => some ⟨.response, 0x0A, payload, checksum, terminator⟩
  | .response0B payload checksum terminator => some ⟨.response, 0x0B, payload, checksum, terminator⟩
  | .response0C payload checksum terminator => some ⟨.response, 0x0C, payload, checksum, terminator⟩
  | .response0D payload checksum terminator => some ⟨.response, 0x0D, payload, checksum, terminator⟩
  | .response0E payload checksum terminator => some ⟨.response, 0x0E, payload, checksum, terminator⟩
  | .response0F payload checksum terminator => some ⟨.response, 0x0F, payload, checksum, terminator⟩
  | .response10 payload checksum terminator => some ⟨.response, 0x10, payload, checksum, terminator⟩
  | .status00 payload checksum terminator => some ⟨.status, 0x00, payload, checksum, terminator⟩
  | .status01 payload checksum terminator => some ⟨.status, 0x01, payload, checksum, terminator⟩
  | .status02 payload checksum terminator => some ⟨.status, 0x02, payload, checksum, terminator⟩
  | .status10 payload checksum terminator => some ⟨.status, 0x10, payload, checksum, terminator⟩
  | .status11 payload checksum terminator => some ⟨.status, 0x11, payload, checksum, terminator⟩
  | .status12 payload checksum terminator => some ⟨.status, 0x12, payload, checksum, terminator⟩
  | .status13 payload checksum terminator => some ⟨.status, 0x13, payload, checksum, terminator⟩
  | .status14 payload checksum terminator => some ⟨.status, 0x14, payload, checksum, terminator⟩
  | .status15 payload checksum terminator => some ⟨.status, 0x15, payload, checksum, terminator⟩
  | .status3E payload checksum terminator => some ⟨.status, 0x3E, payload, checksum, terminator⟩
  | .status3F payload checksum terminator => some ⟨.status, 0x3F, payload, checksum, terminator⟩
  | .writeRequest00 payload checksum terminator => some ⟨.writeRequest, 0x00, payload, checksum, terminator⟩
  | .writeRequest01 payload checksum terminator => some ⟨.writeRequest, 0x01, payload, checksum, terminator⟩
  | .writeRequest02 payload checksum terminator => some ⟨.writeRequest, 0x02, payload, checksum, terminator⟩
  | .writeRequest03 payload checksum terminator => some ⟨.writeRequest, 0x03, payload, checksum, terminator⟩
  | .writeRequest04 payload checksum terminator => some ⟨.writeRequest, 0x04, payload, checksum, terminator⟩
  | .writeRequest05 payload checksum terminator => some ⟨.writeRequest, 0x05, payload, checksum, terminator⟩
  | .writeRequest06 payload checksum terminator => some ⟨.writeRequest, 0x06, payload, checksum, terminator⟩
  | .writeRequest07 payload checksum terminator => some ⟨.writeRequest, 0x07, payload, checksum, terminator⟩
  | .writeRequest08 payload checksum terminator => some ⟨.writeRequest, 0x08, payload, checksum, terminator⟩
  | .writeRequest09 payload checksum terminator => some ⟨.writeRequest, 0x09, payload, checksum, terminator⟩
  | .writeRequest0A payload checksum terminator => some ⟨.writeRequest, 0x0A, payload, checksum, terminator⟩
  | .writeRequest0B payload checksum terminator => some ⟨.writeRequest, 0x0B, payload, checksum, terminator⟩
  | .writeRequest0C payload checksum terminator => some ⟨.writeRequest, 0x0C, payload, checksum, terminator⟩
  | .writeRequest0D payload checksum terminator => some ⟨.writeRequest, 0x0D, payload, checksum, terminator⟩
  | .writeRequest0E payload checksum terminator => some ⟨.writeRequest, 0x0E, payload, checksum, terminator⟩
  | .writeRequest0F payload checksum terminator => some ⟨.writeRequest, 0x0F, payload, checksum, terminator⟩
  | .writeRequest10 payload checksum terminator => some ⟨.writeRequest, 0x10, payload, checksum, terminator⟩
  | .readRequest00 payload checksum terminator => some ⟨.readRequest, 0x00, payload, checksum, terminator⟩
  | .readRequest01 payload checksum terminator => some ⟨.readRequest, 0x01, payload, checksum, terminator⟩
  | .readRequest02 payload checksum terminator => some ⟨.readRequest, 0x02, payload, checksum, terminator⟩
  | .readRequest03 payload checksum terminator => some ⟨.readRequest, 0x03, payload, checksum, terminator⟩
  | .readRequest04 payload checksum terminator => some ⟨.readRequest, 0x04, payload, checksum, terminator⟩
  | .readRequest05 payload checksum terminator => some ⟨.readRequest, 0x05, payload, checksum, terminator⟩
  | .readRequest06 payload checksum terminator => some ⟨.readRequest, 0x06, payload, checksum, terminator⟩
  | .readRequest07 payload checksum terminator => some ⟨.readRequest, 0x07, payload, checksum, terminator⟩
  | .readRequest08 payload checksum terminator => some ⟨.readRequest, 0x08, payload, checksum, terminator⟩
  | .readRequest09 payload checksum terminator => some ⟨.readRequest, 0x09, payload, checksum, terminator⟩
  | .readRequest0A payload checksum terminator => some ⟨.readRequest, 0x0A, payload, checksum, terminator⟩
  | .readRequest0B payload checksum terminator => some ⟨.readRequest, 0x0B, payload, checksum, terminator⟩
  | .readRequest0C payload checksum terminator => some ⟨.readRequest, 0x0C, payload, checksum, terminator⟩
  | .readRequest0D payload checksum terminator => some ⟨.readRequest, 0x0D, payload, checksum, terminator⟩
  | .readRequest0E payload checksum terminator => some ⟨.readRequest, 0x0E, payload, checksum, terminator⟩
  | .readRequest0F payload checksum terminator => some ⟨.readRequest, 0x0F, payload, checksum, terminator⟩
  | .readRequest10 payload checksum terminator => some ⟨.readRequest, 0x10, payload, checksum, terminator⟩
  | .responseMsg _ _ => none
  | .statusMsg _ _ => none
  | .writeRequestMsg _ _ => none
  | .readRequestMsg _ _ => none
  | .msgEncode _ _ _ => none
  | .msgDecode _ => none
  | .indexKnown _ _ => none
  | .payloadU _ => none
  | .payloadS _ => none
  | .payloadFromInt _ _ => none
  | .xor8 _ => none
  | .frameEncode _ => none
  | .frameDecode _ => none
  | .frameStatus _ => none
  | .frameIsvalid _ => none
  | .rxAppend _ => none
  | .rxScan => none
  | .rxScanShort => none
  | .rxScanDiscard => none
  | .rxScanWait => none
  | .rxScanEmit => none
  | .rxScanResync => none
  | .rxPass _ => none
  | .msgqPop => none
  | .txSend _ _ _ => none
  | .txSendClosed _ _ _ => none
  | .linkOpen _ => none
  | .linkClose => none
  | .reset => none

/-- The message that a bare message row stands for; none for a row of another format (R61). -/
def messageRow? (i : Instr) : Option MessageRow :=
  match i with
  | .responseMsg index payload => some ⟨.response, index, payload⟩
  | .statusMsg index payload => some ⟨.status, index, payload⟩
  | .writeRequestMsg index payload => some ⟨.writeRequest, index, payload⟩
  | .readRequestMsg index payload => some ⟨.readRequest, index, payload⟩
  | .response _ _ _ _ => none
  | .status _ _ _ _ => none
  | .writeRequest _ _ _ _ => none
  | .readRequest _ _ _ _ => none
  | .response00 _ _ _ => none
  | .response01 _ _ _ => none
  | .response02 _ _ _ => none
  | .response03 _ _ _ => none
  | .response04 _ _ _ => none
  | .response05 _ _ _ => none
  | .response06 _ _ _ => none
  | .response07 _ _ _ => none
  | .response08 _ _ _ => none
  | .response09 _ _ _ => none
  | .response0A _ _ _ => none
  | .response0B _ _ _ => none
  | .response0C _ _ _ => none
  | .response0D _ _ _ => none
  | .response0E _ _ _ => none
  | .response0F _ _ _ => none
  | .response10 _ _ _ => none
  | .status00 _ _ _ => none
  | .status01 _ _ _ => none
  | .status02 _ _ _ => none
  | .status10 _ _ _ => none
  | .status11 _ _ _ => none
  | .status12 _ _ _ => none
  | .status13 _ _ _ => none
  | .status14 _ _ _ => none
  | .status15 _ _ _ => none
  | .status3E _ _ _ => none
  | .status3F _ _ _ => none
  | .writeRequest00 _ _ _ => none
  | .writeRequest01 _ _ _ => none
  | .writeRequest02 _ _ _ => none
  | .writeRequest03 _ _ _ => none
  | .writeRequest04 _ _ _ => none
  | .writeRequest05 _ _ _ => none
  | .writeRequest06 _ _ _ => none
  | .writeRequest07 _ _ _ => none
  | .writeRequest08 _ _ _ => none
  | .writeRequest09 _ _ _ => none
  | .writeRequest0A _ _ _ => none
  | .writeRequest0B _ _ _ => none
  | .writeRequest0C _ _ _ => none
  | .writeRequest0D _ _ _ => none
  | .writeRequest0E _ _ _ => none
  | .writeRequest0F _ _ _ => none
  | .writeRequest10 _ _ _ => none
  | .readRequest00 _ _ _ => none
  | .readRequest01 _ _ _ => none
  | .readRequest02 _ _ _ => none
  | .readRequest03 _ _ _ => none
  | .readRequest04 _ _ _ => none
  | .readRequest05 _ _ _ => none
  | .readRequest06 _ _ _ => none
  | .readRequest07 _ _ _ => none
  | .readRequest08 _ _ _ => none
  | .readRequest09 _ _ _ => none
  | .readRequest0A _ _ _ => none
  | .readRequest0B _ _ _ => none
  | .readRequest0C _ _ _ => none
  | .readRequest0D _ _ _ => none
  | .readRequest0E _ _ _ => none
  | .readRequest0F _ _ _ => none
  | .readRequest10 _ _ _ => none
  | .msgEncode _ _ _ => none
  | .msgDecode _ => none
  | .indexKnown _ _ => none
  | .payloadU _ => none
  | .payloadS _ => none
  | .payloadFromInt _ _ => none
  | .xor8 _ => none
  | .frameEncode _ => none
  | .frameDecode _ => none
  | .frameStatus _ => none
  | .frameIsvalid _ => none
  | .rxAppend _ => none
  | .rxScan => none
  | .rxScanShort => none
  | .rxScanDiscard => none
  | .rxScanWait => none
  | .rxScanEmit => none
  | .rxScanResync => none
  | .rxPass _ => none
  | .msgqPop => none
  | .txSend _ _ _ => none
  | .txSendClosed _ _ _ => none
  | .linkOpen _ => none
  | .linkClose => none
  | .reset => none

/-- The fields of a frame row's window: its id byte is assembled from the record's type code (R63). -/
def rowFields (c : WireConfig) (r : FrameRow) : FrameFields :=
  ⟨idByte (c.code r.type) r.index, r.payload, r.checksum, r.terminator⟩

/-- The fields of a frame row; none for a row of another format (R62, R67). -/
def frameFields? (c : WireConfig) (i : Instr) : Option FrameFields := (frameRow? i).map (rowFields c)

/-- The message of a bare message row; none for a row of another format (R61). -/
def packedMessage? (c : WireConfig) (i : Instr) : Option Message :=
  (messageRow? i).map fun r => ⟨c.code r.type, r.index, r.payload⟩

end Sys2Proof.Machine
end

