-- ==== Sys2Proof/Machine/Flags.lean ====
section
/-! DEFINITION. The four validity flags of a window, the validity they add up to, and the causes they
stand for (spec 41_frame_codec.md R123, R124; 60_exceptions.md R201 to R204). -/

namespace Sys2Proof.Machine

open Sys2Proof.Config

/-- `FRAME_STATUS` (R123). The terminator enters no flag (R70). -/
def windowFlags (c : WireConfig) (w : Bytes7) : FrameFlags :=
  let f := unpackFrame c w
  { startOk := f.start == c.start
    endOk := f.endMarker == c.endMarker
    cksumOk := f.checksum == checksum8 f.messageBytes
    msgOk := f.message.ok }

/-- The conjunction of the four flags (R124). -/
def allOk (f : FrameFlags) : Bool := f.startOk && f.endOk && f.cksumOk && f.msgOk

/-- `FRAME_ISVALID` (R124): four conditions (conflict C1). -/
def windowValid (c : WireConfig) (w : Bytes7) : Bool := allOk (windowFlags c w)

/-- The causes of a rejection, named as R201 to R204 name them. -/
inductive Cause where
  | badStart
  | badEnd
  | badChecksum
  | badMessage
deriving DecidableEq, Repr

/-- The causes that the flags report, all the failing ones together (R208, R210). -/
def causesOf (f : FrameFlags) : List Cause :=
  (if f.startOk then [] else [.badStart]) ++ (if f.endOk then [] else [.badEnd]) ++
    (if f.cksumOk then [] else [.badChecksum]) ++ (if f.msgOk then [] else [.badMessage])

end Sys2Proof.Machine
end

