-- ==== Sys2Proof/WellFormed.lean ====
section
/-! DEFINITION. Well-formedness: the constraint that spec/opcode_table.json puts on each row beyond its
mask (R73: the checksum condition "cannot be put in a match and mask"). -/

namespace Sys2Proof

open Sys2Proof.Config Sys2Proof.Machine

/-- "checksum = byte1 ^ byte2 ^ byte3"; the terminator is unchecked. -/
def checksumAgrees (f : FrameFields) : Bool :=
  f.checksum == checksum8 ⟨f.id, payloadHi f.payload, payloadLo f.payload⟩

/-- The constraint of a frame row: the index is a member of the enumeration of its type, and the checksum agrees. -/
def frameWellFormed (c : WireConfig) (r : FrameRow) : Bool :=
  isKnownIndex c (c.code r.type) r.index && checksumAgrees (rowFields c r)

/-- The constraint of a row of the opcode table. A frame row that breaks it is still read by the decoder
and runs (its window is rejected, R147); an operation is invoked with operands of its own widths, and
`PAYLOAD_FROM_INT` with a number in the range of its reading (R105). -/
def Instr.wellFormed (c : WireConfig) (i : Instr) : Bool :=
  match frameRow? i, messageRow? i, i with
  | some r, _, _ => frameWellFormed c r
  | none, some m, _ => isKnownIndex c (c.code m.type) m.index
  | none, none, .payloadFromInt n signed => inReading n signed
  | none, none, _ => true

end Sys2Proof
end

