-- ==== Sys2Proof/Decode.lean ====
section
/-! DEFINITION. The decoder, total on any bytes and rejecting by name, and after it the encoder (spec
30_encoding.md R60 to R73, spec/opcode_table.json). A window is read by the masks of the table: markers,
then the id byte; a word that two rows match is given to the row with the larger mask (DESIGN CHOICE,
log entry 8). -/

namespace Sys2Proof

open Sys2Proof.Config Sys2Proof.Machine

/-- Why bytes are no row of the table. -/
inductive DecodeError where
  /-- The bytes are neither 3 (`MSG24`) nor 7 (`FRAME56`): no such format (R60, R72). Raised by `decode`. Safe. -/
  | noSuchFormat
  /-- Byte 0 is not the start marker (R69, `BAD_START`). Raised by `decodeFrame`. Safe. -/
  | badStart
  /-- Byte 5 is not the end marker (R69, `BAD_END`). Raised by `decodeFrame`. Safe. -/
  | badEnd
deriving DecidableEq, Repr

/-- The row of a `RESPONSE` frame: the row of its index where the table has one (R67), else the per-type row (R66). -/
def responseRow (index : Index) (payload : Payload) (checksum terminator : Byte) : Instr :=
  match index with
  | 0x00 => .response00 payload checksum terminator
  | 0x01 => .response01 payload checksum terminator
  | 0x02 => .response02 payload checksum terminator
  | 0x03 => .response03 payload checksum terminator
  | 0x04 => .response04 payload checksum terminator
  | 0x05 => .response05 payload checksum terminator
  | 0x06 => .response06 payload checksum terminator
  | 0x07 => .response07 payload checksum terminator
  | 0x08 => .response08 payload checksum terminator
  | 0x09 => .response09 payload checksum terminator
  | 0x0A => .response0A payload checksum terminator
  | 0x0B => .response0B payload checksum terminator
  | 0x0C => .response0C payload checksum terminator
  | 0x0D => .response0D payload checksum terminator
  | 0x0E => .response0E payload checksum terminator
  | 0x0F => .response0F payload checksum terminator
  | 0x10 => .response10 payload checksum terminator
  | _ => .response index payload checksum terminator

/-- The row of a `STATUS` frame: the row of its index where the table has one (R67), else the per-type row (R66). -/
def statusRow (index : Index) (payload : Payload) (checksum terminator : Byte) : Instr :=
  match index with
  | 0x00 => .status00 payload checksum terminator
  | 0x01 => .status01 payload checksum terminator
  | 0x02 => .status02 payload checksum terminator
  | 0x10 => .status10 payload checksum terminator
  | 0x11 => .status11 payload checksum terminator
  | 0x12 => .status12 payload checksum terminator
  | 0x13 => .status13 payload checksum terminator
  | 0x14 => .status14 payload checksum terminator
  | 0x15 => .status15 payload checksum terminator
  | 0x3E => .status3E payload checksum terminator
  | 0x3F => .status3F payload checksum terminator
  | _ => .status index payload checksum terminator

/-- The row of a `WRITE_REQUEST` frame: the row of its index where the table has one (R67), else the per-type row (R66). -/
def writeRequestRow (index : Index) (payload : Payload) (checksum terminator : Byte) : Instr :=
  match index with
  | 0x00 => .writeRequest00 payload checksum terminator
  | 0x01 => .writeRequest01 payload checksum terminator
  | 0x02 => .writeRequest02 payload checksum terminator
  | 0x03 => .writeRequest03 payload checksum terminator
  | 0x04 => .writeRequest04 payload checksum terminator
  | 0x05 => .writeRequest05 payload checksum terminator
  | 0x06 => .writeRequest06 payload checksum terminator
  | 0x07 => .writeRequest07 payload checksum terminator
  | 0x08 => .writeRequest08 payload checksum terminator
  | 0x09 => .writeRequest09 payload checksum terminator
  | 0x0A => .writeRequest0A payload checksum terminator
  | 0x0B => .writeRequest0B payload checksum terminator
  | 0x0C => .writeRequest0C payload checksum terminator
  | 0x0D => .writeRequest0D payload checksum terminator
  | 0x0E => .writeRequest0E payload checksum terminator
  | 0x0F => .writeRequest0F payload checksum terminator
  | 0x10 => .writeRequest10 payload checksum terminator
  | _ => .writeRequest index payload checksum terminator

/-- The row of a `READ_REQUEST` frame: the row of its index where the table has one (R67), else the per-type row (R66). -/
def readRequestRow (index : Index) (payload : Payload) (checksum terminator : Byte) : Instr :=
  match index with
  | 0x00 => .readRequest00 payload checksum terminator
  | 0x01 => .readRequest01 payload checksum terminator
  | 0x02 => .readRequest02 payload checksum terminator
  | 0x03 => .readRequest03 payload checksum terminator
  | 0x04 => .readRequest04 payload checksum terminator
  | 0x05 => .readRequest05 payload checksum terminator
  | 0x06 => .readRequest06 payload checksum terminator
  | 0x07 => .readRequest07 payload checksum terminator
  | 0x08 => .readRequest08 payload checksum terminator
  | 0x09 => .readRequest09 payload checksum terminator
  | 0x0A => .readRequest0A payload checksum terminator
  | 0x0B => .readRequest0B payload checksum terminator
  | 0x0C => .readRequest0C payload checksum terminator
  | 0x0D => .readRequest0D payload checksum terminator
  | 0x0E => .readRequest0E payload checksum terminator
  | 0x0F => .readRequest0F payload checksum terminator
  | 0x10 => .readRequest10 payload checksum terminator
  | _ => .readRequest index payload checksum terminator

/-- The row of an id byte and the fields behind it (R66, R67): its type by the record's codes, then its index. -/
def idRow (c : WireConfig) (f : FrameFields) : Instr :=
  match c.typeOf (idType f.id) with
  | .response => responseRow (idIndex f.id) f.payload f.checksum f.terminator
  | .status => statusRow (idIndex f.id) f.payload f.checksum f.terminator
  | .writeRequest => writeRequestRow (idIndex f.id) f.payload f.checksum f.terminator
  | .readRequest => readRequestRow (idIndex f.id) f.payload f.checksum f.terminator

/-- Decode of a 7-byte window by the masks of the table (R62, R73). The checksum and the legality of the
id byte are judged when the frame runs (R146, R147). -/
def decodeFrame (c : WireConfig) (w : Bytes7) : Except DecodeError Instr :=
  if w.b0 ≠ c.start then .error .badStart
  else if w.b5 ≠ c.endMarker then .error .badEnd
  else .ok (idRow c (windowFields w))

/-- The row of a bare message (R61): every type is a member (R5), so it never fails. -/
def messageRow (c : WireConfig) (m : Message) : Instr :=
  match c.typeOf m.type with
  | .response => .responseMsg m.index m.payload
  | .status => .statusMsg m.index m.payload
  | .writeRequest => .writeRequestMsg m.index m.payload
  | .readRequest => .readRequestMsg m.index m.payload

/-- Decode of a 3-byte packed message (R61). -/
def decodeMessage (c : WireConfig) (b : Bytes3) : Instr := messageRow c (messageOf (unpackMessage c b))

/-- The decoder: the two formats have fixed lengths (R60). -/
def decode (c : WireConfig) (bytes : List Byte) : Except DecodeError Instr :=
  match bytes with
  | [b0, b1, b2] => .ok (decodeMessage c ⟨b0, b1, b2⟩)
  | [b0, b1, b2, b3, b4, b5, b6] => decodeFrame c ⟨b0, b1, b2, b3, b4, b5, b6⟩
  | _ => .error .noSuchFormat

/-- The encoder: the bytes of a row that has an encoding, none for an operation (R61, R62, R76). -/
def encode (c : WireConfig) (i : Instr) : Option (List Byte) :=
  match frameFields? c i, packedMessage? c i with
  | some f, _ => some (bytes7List (rowWindow c f))
  | none, some m => some (bytes3List (packMessage m.type m.index m.payload))
  | none, none => none

/-- The frame rows that leave the index free (R66). -/
def isTypeRow (i : Instr) : Bool :=
  match i with
  | .response _ _ _ _ | .status _ _ _ _ | .writeRequest _ _ _ _ | .readRequest _ _ _ _ => true
  | _ => false

/-- The 56-bit word of a window, byte 0 most significant (R10). -/
def windowWord (w : Bytes7) : BitVec 56 :=
  w.b0 ++ w.b1 ++ w.b2 ++ w.b3 ++ w.b4 ++ w.b5 ++ w.b6

/-- The mask of a frame row as a 56-bit word, byte 0 most significant (R73, opcode_table.json "mask"); none
for a row of another format. -/
def rowMask? (i : Instr) : Option (BitVec 56) :=
  (frameRow? i).map fun _ => if isTypeRow i then 0xFFC0000000FF00 else 0xFFFF000000FF00

/-- The match of a frame row under its mask (R73, opcode_table.json "match"): the two markers around the type code
and, in a per-id row, the index; none for a row of another format. -/
def rowMatch? (c : WireConfig) (i : Instr) : Option (BitVec 56) :=
  (frameRow? i).map fun r =>
    windowWord ⟨c.start, idByte (c.code r.type) (if isTypeRow i then 0 else r.index), 0, 0, 0, c.endMarker, 0⟩

/-- Byte `k` from the least significant end of a number. -/
def byteOfNat (w k : Nat) : Byte := BitVec.ofNat 8 (w >>> (8 * k))

/-- The 3 bytes of a 24-bit word of the table, byte 0 most significant (R10; DEDUCED, log entry 7). -/
def bytes3OfNat (w : Nat) : Bytes3 := ⟨byteOfNat w 2, byteOfNat w 1, byteOfNat w 0⟩

/-- The 7 bytes of a 56-bit word of the table, byte 0 most significant (R10; DEDUCED, log entry 7). -/
def bytes7OfNat (w : Nat) : Bytes7 :=
  ⟨byteOfNat w 6, byteOfNat w 5, byteOfNat w 4, byteOfNat w 3, byteOfNat w 2, byteOfNat w 1, byteOfNat w 0⟩

/-- The bytes of a word of the table: `MSG24` up to 24 bits, `FRAME56` up to 56, else no format. -/
def bytesOfTableWord (nbits w : Nat) : List Byte :=
  if nbits = 0 then []
  else if nbits ≤ 24 then bytes3List (bytes3OfNat w)
  else if nbits ≤ 56 then bytes7List (bytes7OfNat w)
  else []

/-- The instruction the decoder reads from a word of the opcode table, which is written for this hardware's values. -/
def decodeTableWord (nbits w : Nat) : Option Instr :=
  match decode hw (bytesOfTableWord nbits w) with
  | .ok i => some i
  | .error _ => none

end Sys2Proof
end

