-- ==== Sys2Proof/Machine/State.lean ====
section
/-! DEFINITION. The state of the block as plain data, the reasons a step can stop, and the state after
reset (spec 10_state.md R20 to R34, 60_exceptions.md R200, R208, R217). -/

namespace Sys2Proof.Machine

/-- `S.LINK` (R21): the block's only mode field (R216). -/
inductive Link where
  | closed
  | opened
deriving DecidableEq, Repr

/-- `S.PHASE` (R22): before step 1 of the receiver loop, or inside the while loop of step 2. -/
inductive Phase where
  | refill
  | scanning
deriving DecidableEq, Repr

/-- The five agents (R217). -/
inductive Agent where
  | transport
  | synchronizer
  | consumer
  | sender
  | controller
deriving DecidableEq, Repr

/-- What an agent asks the block to run. -/
inductive Request where
  /-- An operation, invoked as a function call with its operands (R76). -/
  | call (i : Instr)
  /-- A packed message, presented as its 3 bytes and read by the decoder (R61; DEDUCED, log entry 10). -/
  | packed (b : Bytes3)
deriving DecidableEq, Repr

/-- One input of the environment: every agent may call every operation (R216). -/
structure Command where
  agent : Agent
  request : Request
deriving DecidableEq, Repr

/-- What a step returns on its channel (00_scope.md section 4). -/
inductive Result where
  /-- The operation returns nothing. -/
  | none
  /-- The step was not enabled and the agent holds (R11 `hold`). -/
  | hold
  /-- `return success` (R170, R172, R173). -/
  | success
  /-- `return failure` (R171, R172, R173): a result for the caller, not a fault. -/
  | failure
  /-- The bytes of `MSG_ENCODE` or `FRAME_ENCODE`, first byte first. -/
  | bytes (bs : List Byte)
  /-- The byte of `XOR8`. -/
  | byte (b : Byte)
  /-- The message of `MSG_DECODE`, with its mark `ok`. -/
  | decoded (d : DecodedMessage)
  /-- The truth value of `INDEX_KNOWN` or `FRAME_ISVALID`. -/
  | truth (b : Bool)
  /-- The number of `PAYLOAD_U`. -/
  | natural (n : Nat)
  /-- The integer of `PAYLOAD_S`. -/
  | integer (n : Int)
  /-- The 16 bits of `PAYLOAD_FROM_INT`. -/
  | payload (p : Payload)
  /-- The record of `FRAME_DECODE`. -/
  | frame (f : FrameRecord)
  /-- The flags of `FRAME_STATUS`. -/
  | flags (f : FrameFlags)
  /-- The message that `MSGQ_POP` takes. -/
  | message (m : Message)
deriving DecidableEq, Repr

/-- The labels of steps (R208): diagnostic only, no step depends on them (R214). -/
inductive Label where
  | rejectBadFrame (endOk cksumOk msgOk : Bool)
  | discardNoMarker (n : Nat)
  | failLinkClosed
  | failLinkAlreadyOpen
  | failOpenRefused
  | emit (m : Message)
deriving DecidableEq, Repr

/-- The five outcomes of `RX_SCAN` (R142), with the offset of the marker and the window. -/
inductive ScanOutcome where
  | short
  | discard
  | wait (p : Nat)
  | emit (p : Nat) (w : Bytes7)
  | resync (p : Nat) (w : Bytes7)
deriving DecidableEq, Repr

/-- The whole state: the eight fields of R20, and below them the model's own five. -/
structure State where
  /-- `S.LINK` -/
  link : Link
  /-- `S.PHASE` -/
  phase : Phase
  /-- `S.RXBUF`, oldest byte first -/
  rxbuf : List Byte
  /-- `S.MSGQ`, oldest message first -/
  msgq : List Message
  /-- `S.TXSTREAM`, oldest byte first -/
  txstream : List Byte
  /-- `S.RXHIST`, ghost -/
  rxhist : List Byte
  /-- `S.CONSUMED`, ghost -/
  consumed : Nat
  /-- `S.EMITTED`, ghost -/
  emitted : List Message
  /-- The parameter `MSGQ_CAP` (R9, R29): no step changes it (DESIGN CHOICE, log entry 5). -/
  msgqCap : Option Nat
  /-- The configuration record of the wire constants (R8, R29; U20): no step changes it (DESIGN CHOICE, log
  entry 19). -/
  config : Config.WireConfig
  /-- Commands of the environment not taken yet, oldest first (DESIGN CHOICE, log entry 1). -/
  inbox : List Command
  /-- What the last step returned (DESIGN CHOICE, log entry 6). -/
  result : Result
  /-- The labels of the last step, in order (R208; DESIGN CHOICE, log entry 6). -/
  labels : List Label
deriving DecidableEq, Repr

/-- There is no fault: "Nothing in the block stops it, faults it or leaves it stuck for good on account
of received data" (R200). -/
inductive Fault where
deriving DecidableEq, Repr

/-- Why a step has no meaning. -/
inductive Refusal where
  /-- An instruction without a meaning yet. Raised by `exec`. Safe. -/
  | notModelled (mnemonic : String)
  /-- `PAYLOAD_FROM_INT` of a number outside the chosen reading: "not defined (the conversion is refused)"
  (R105, decision D27, U6). Raised by `execPayloadFromInt`. Safe: nothing is claimed of such a conversion. -/
  | payloadOutOfRange (n : Int) (signed : Bool)
deriving DecidableEq, Repr

/-- The state after reset (R34, R231); the model's own fields are empty and the capacity is the default
and the wire constants are this hardware's (DESIGN CHOICE, log entries 1, 5, 6, 19). -/
def State.reset : State where
  link := .closed
  phase := .refill
  rxbuf := []
  msgq := []
  txstream := []
  rxhist := []
  consumed := 0
  emitted := []
  msgqCap := Config.defaultMsgqCap
  config := Config.hw
  inbox := []
  result := .none
  labels := []

end Sys2Proof.Machine
end

