-- ==== Sys2Proof/Machine/Ops.lean ====
section
/-! DEFINITION. The named operations over the sequences of the state, the search of the receive buffer,
and what a scan step does with its outcome (spec 42_synchronizer.md R141 to R150, 60_exceptions.md R211). -/

namespace Sys2Proof.Machine

open Sys2Proof.Config

/-- What a meaning answers. -/
abbrev Answer := Host.Outcome State Fault Refusal

/-! ### Search and window, over any configuration record (R8) -/

/-- `first_index(v, s)` (R11). -/
def firstIndex (v : Byte) : List Byte → Option Nat
  | [] => none
  | b :: bs => if b = v then some 0 else (firstIndex v bs).map (· + 1)

/-- `MemRead(RXBUF, p, FRAME_LEN)` (R11), read as the 7 fields of a frame (R62): none where the sequence holds no
whole frame from `p`. -/
def windowAt (c : WireConfig) (buf : List Byte) (p : Nat) : Option Bytes7 :=
  if buf.length < p + c.frameLen then none
  else
    match buf.drop p with
    | b0 :: b1 :: b2 :: b3 :: b4 :: b5 :: b6 :: _ => some ⟨b0, b1, b2, b3, b4, b5, b6⟩
    | _ => none

/-- The dispatcher of R142, its tests in the source's order: length, search, remaining length (no whole
window at `p`), validity. -/
def scan (c : WireConfig) (buf : List Byte) : ScanOutcome :=
  if buf.length < c.frameLen then .short
  else
    match firstIndex c.start buf with
    | none => .discard
    | some p =>
      match windowAt c buf p with
      | none => .wait p
      | some w => if windowValid c w then .emit p w else .resync p w

/-! ### Updates of the state -/

/-- Record what a step returned and its labels (R208, R214; log entry 6). -/
def State.reply (s : State) (r : Result) (ls : List Label) : State := { s with result := r, labels := ls }

/-- The step is not enabled: nothing of the spec's state changes (R11 `hold`; DESIGN CHOICE, log entry 3). -/
def State.hold (s : State) : State := s.reply .hold []

/-- `RXBUF <- RXBUF ++ chunk`, with its ghost, and `PHASE <- SCANNING` (R141). -/
def State.appendRx (s : State) (chunk : List Byte) : State :=
  { s with rxbuf := s.rxbuf ++ chunk, rxhist := s.rxhist ++ chunk, phase := .scanning }

/-- `PHASE <- REFILL`: the pass ends (R143, R145). -/
def State.endPass (s : State) : State := { s with phase := .refill }

/-- `RXBUF <- drop(n, RXBUF)`, with its ghost (R146, R147). -/
def State.dropHead (s : State) (n : Nat) : State :=
  { s with rxbuf := s.rxbuf.drop n, consumed := s.consumed + n }

/-- `RXBUF <- []`, with its ghost (R144). -/
def State.discardAll (s : State) : State :=
  { s with rxbuf := [], consumed := s.consumed + s.rxbuf.length }

/-- `MSGQ <- MSGQ ++ [m]`, with its ghost (R146). -/
def State.pushMsg (s : State) (m : Message) : State :=
  { s with msgq := s.msgq ++ [m], emitted := s.emitted ++ [m] }

/-- `MSGQ <- drop(1, MSGQ)` (R149). -/
def State.popMsg (s : State) : State := { s with msgq := s.msgq.drop 1 }

/-- `TXSTREAM <- TXSTREAM ++ bs` (R170). -/
def State.transmit (s : State) (bs : List Byte) : State := { s with txstream := s.txstream ++ bs }

/-- The writes of a successful `LINK_OPEN` (R172). -/
def State.openLink (s : State) : State :=
  { s with link := .opened, phase := .refill, rxbuf := [], rxhist := [], consumed := 0, emitted := [] }

/-- The writes of a successful `LINK_CLOSE` (R173). -/
def State.closeLink (s : State) : State := { s with link := .closed, rxbuf := [] }

/-- The writes of `RESET` (R174). The parameters are not touched (R231), and the inputs of the environment stay
(DESIGN CHOICE, log entry 14). -/
def State.clearAll (s : State) : State :=
  { s with
    link := .closed, phase := .refill, rxbuf := [], msgq := [], txstream := [],
    rxhist := [], consumed := 0, emitted := [] }

/-! ### Conditions of the state -/

/-- The queue has room (R146, R150). -/
def State.room (s : State) : Bool :=
  match s.msgqCap with
  | none => true
  | some cap => decide (s.msgq.length < cap)

/-- A message can be taken: the only "pending" indication (R30, R209). -/
def State.messageReady (s : State) : Bool := !s.msgq.isEmpty

/-- The receiver stands inside a pass: where `RX_SCAN` is enabled (R142). -/
def State.inPass (s : State) : Bool := decide (s.link = .opened ∧ s.phase = .scanning)

/-- The receiver stands before a refill: where `RX_APPEND` is enabled (R141). -/
def State.canRefill (s : State) : Bool := decide (s.link = .opened ∧ s.phase = .refill)

/-- The outcome of the scan step that the state stands before; none outside a pass. -/
def State.outcome? (s : State) : Option ScanOutcome :=
  if s.inPass then some (scan s.config s.rxbuf) else none

/-- The fetched word: the window at the first start marker, with its offset (00_scope.md section 6). -/
def State.window? (s : State) : Option (Nat × Bytes7) :=
  match s.outcome? with
  | some (.emit p w) | some (.resync p w) => some (p, w)
  | some .short | some .discard | some (.wait _) | none => none

/-! ### What a scan step does -/

/-- Taking a rejection, the counterpart of a trap (R147, R211): the marker and the `p` bytes in front of it
go, nothing is saved, no mode changes. There is no return operation: the next scan step is the return
(R212). -/
def rejectWindow (p : Nat) (w : Bytes7) (s : State) : State :=
  let f := windowFlags s.config w
  (s.dropHead (p + 1)).reply .none [.rejectBadFrame f.endOk f.cksumOk f.msgOk]

/-- Taking a valid window (R146); held while the queue is full (R150). -/
def takeFrame (p : Nat) (w : Bytes7) (s : State) : State :=
  let m := messageOf (unpackMessage s.config (windowMessage w))
  if s.room then ((s.pushMsg m).dropHead (p + s.config.frameLen)).reply .none [.emit m] else s.hold

/-- What a scan step does with its outcome (R143 to R147). -/
def applyOutcome (o : ScanOutcome) (s : State) : State :=
  match o with
  | .short => s.endPass.reply .none []
  | .discard => (s.discardAll.endPass).reply .none [.discardNoMarker s.rxbuf.length]
  | .wait _ => s.endPass.reply .none []
  | .emit p w => takeFrame p w s
  | .resync p w => rejectWindow p w s

/-- One `RX_SCAN` (R142); held outside a pass. -/
def scanStep (s : State) : State :=
  match s.outcome? with
  | some o => applyOutcome o s
  | none => s.hold

/-- `RX_SCAN` is enabled: inside a pass, and the queue has room for an EMIT (R142, R150). -/
def State.canScan (s : State) : Bool :=
  match s.outcome? with
  | some (.emit _ _) => s.room
  | some .short | some .discard | some (.wait _) | some (.resync _ _) => true
  | none => false

/-- A frame row at the scan cursor: its window is taken or rejected; held where the window at the cursor
is not this frame (DEDUCED, log entry 9). -/
def receiveFrame (f : FrameFields) (s : State) : State :=
  match s.window? with
  | some (p, w) =>
    if w = rowWindow s.config f then (if windowValid s.config w then takeFrame p w s else rejectWindow p w s) else s.hold
  | none => s.hold

/-- Running a frame row: its window under the record of the state (R63, R185 to R188). -/
def receiveRow (i : Instr) (s : State) : State :=
  match frameFields? s.config i with
  | some f => receiveFrame f s
  | none => s.hold

/-- Running a bare message row: `MSG_DECODE` of its 3 bytes (R101; DEDUCED, log entry 10). -/
def decodeRow (i : Instr) (s : State) : State :=
  match packedMessage? s.config i with
  | some m => s.reply (.decoded (unpackMessage s.config (packMessage m.type m.index m.payload))) []
  | none => s.hold

/-- Up to `k` scan steps, until the pass has ended or the queue holds it; the labels are kept in order. -/
def scanLoop : Nat → State → State
  | 0, s => s
  | k + 1, s =>
    if s.canScan then
      let t := scanStep s
      scanLoop k (t.reply t.result (s.labels ++ t.labels))
    else s

/-- `RX_PASS(chunk)` (R148): a refill and the scan steps that end it. Each step but the last removes a byte,
so one more step than bytes is enough; a full queue holds it inside the pass (R150). One step for the
whole composite: DESIGN CHOICE, log entry 16. -/
def passStep (chunk : List Byte) (s : State) : State :=
  if s.canRefill then
    let t := scanLoop (s.rxbuf.length + chunk.length + 1) ((s.appendRx chunk).reply .none [])
    if t.phase = .refill then t else t.reply .hold t.labels
  else s.hold

/-- `MSGQ_POP` (R149); held on an empty queue. -/
def popStep (s : State) : State :=
  match s.msgq with
  | m :: _ => s.popMsg.reply (.message m) []
  | [] => s.hold

/-- The bytes `TX_SEND` appends (R170). -/
def sentBytes (c : WireConfig) (type : TypeCode) (index : Index) (payload : Payload) : List Byte :=
  bytes7List (packFrame c (packMessage type index payload))

/-! ### Enabling conditions (R216) -/

/-- Whether a frame row is enabled: its window is at the cursor, and there is room if it is valid. -/
def frameEnabled (f : FrameFields) (s : State) : Bool :=
  match s.window? with
  | some (_, w) => decide (w = rowWindow s.config f) && (s.room || !windowValid s.config w)
  | none => false

/-- Whether the frame row is enabled under the record of the state. -/
def rowEnabled (i : Instr) (s : State) : Bool :=
  match frameFields? s.config i with
  | some f => frameEnabled f s
  | none => false

/-- Whether a step is enabled in a state (R141 to R150, R170 to R174, R216). An outcome row is enabled where
its outcome is the one that applies (DEDUCED, log entry 11). -/
def enabled (i : Instr) (s : State) : Bool :=
  match i with
  | .response _ _ _ _ => rowEnabled i s
  | .status _ _ _ _ => rowEnabled i s
  | .writeRequest _ _ _ _ => rowEnabled i s
  | .readRequest _ _ _ _ => rowEnabled i s
  | .responseMsg _ _ => true
  | .statusMsg _ _ => true
  | .writeRequestMsg _ _ => true
  | .readRequestMsg _ _ => true
  | .response00 _ _ _ => rowEnabled i s
  | .response01 _ _ _ => rowEnabled i s
  | .response02 _ _ _ => rowEnabled i s
  | .response03 _ _ _ => rowEnabled i s
  | .response04 _ _ _ => rowEnabled i s
  | .response05 _ _ _ => rowEnabled i s
  | .response06 _ _ _ => rowEnabled i s
  | .response07 _ _ _ => rowEnabled i s
  | .response08 _ _ _ => rowEnabled i s
  | .response09 _ _ _ => rowEnabled i s
  | .response0A _ _ _ => rowEnabled i s
  | .response0B _ _ _ => rowEnabled i s
  | .response0C _ _ _ => rowEnabled i s
  | .response0D _ _ _ => rowEnabled i s
  | .response0E _ _ _ => rowEnabled i s
  | .response0F _ _ _ => rowEnabled i s
  | .response10 _ _ _ => rowEnabled i s
  | .status00 _ _ _ => rowEnabled i s
  | .status01 _ _ _ => rowEnabled i s
  | .status02 _ _ _ => rowEnabled i s
  | .status10 _ _ _ => rowEnabled i s
  | .status11 _ _ _ => rowEnabled i s
  | .status12 _ _ _ => rowEnabled i s
  | .status13 _ _ _ => rowEnabled i s
  | .status14 _ _ _ => rowEnabled i s
  | .status15 _ _ _ => rowEnabled i s
  | .status3E _ _ _ => rowEnabled i s
  | .status3F _ _ _ => rowEnabled i s
  | .writeRequest00 _ _ _ => rowEnabled i s
  | .writeRequest01 _ _ _ => rowEnabled i s
  | .writeRequest02 _ _ _ => rowEnabled i s
  | .writeRequest03 _ _ _ => rowEnabled i s
  | .writeRequest04 _ _ _ => rowEnabled i s
  | .writeRequest05 _ _ _ => rowEnabled i s
  | .writeRequest06 _ _ _ => rowEnabled i s
  | .writeRequest07 _ _ _ => rowEnabled i s
  | .writeRequest08 _ _ _ => rowEnabled i s
  | .writeRequest09 _ _ _ => rowEnabled i s
  | .writeRequest0A _ _ _ => rowEnabled i s
  | .writeRequest0B _ _ _ => rowEnabled i s
  | .writeRequest0C _ _ _ => rowEnabled i s
  | .writeRequest0D _ _ _ => rowEnabled i s
  | .writeRequest0E _ _ _ => rowEnabled i s
  | .writeRequest0F _ _ _ => rowEnabled i s
  | .writeRequest10 _ _ _ => rowEnabled i s
  | .readRequest00 _ _ _ => rowEnabled i s
  | .readRequest01 _ _ _ => rowEnabled i s
  | .readRequest02 _ _ _ => rowEnabled i s
  | .readRequest03 _ _ _ => rowEnabled i s
  | .readRequest04 _ _ _ => rowEnabled i s
  | .readRequest05 _ _ _ => rowEnabled i s
  | .readRequest06 _ _ _ => rowEnabled i s
  | .readRequest07 _ _ _ => rowEnabled i s
  | .readRequest08 _ _ _ => rowEnabled i s
  | .readRequest09 _ _ _ => rowEnabled i s
  | .readRequest0A _ _ _ => rowEnabled i s
  | .readRequest0B _ _ _ => rowEnabled i s
  | .readRequest0C _ _ _ => rowEnabled i s
  | .readRequest0D _ _ _ => rowEnabled i s
  | .readRequest0E _ _ _ => rowEnabled i s
  | .readRequest0F _ _ _ => rowEnabled i s
  | .readRequest10 _ _ _ => rowEnabled i s
  | .msgEncode _ _ _ => true
  | .msgDecode _ => true
  | .indexKnown _ _ => true
  | .payloadU _ => true
  | .payloadS _ => true
  | .payloadFromInt _ _ => true
  | .xor8 _ => true
  | .frameEncode _ => true
  | .frameDecode _ => true
  | .frameStatus _ => true
  | .frameIsvalid _ => true
  | .rxAppend _ => s.canRefill
  | .rxScan => s.canScan
  | .rxScanShort => s.outcome? == some .short
  | .rxScanDiscard => s.outcome? == some .discard
  | .rxScanWait => (match s.outcome? with | some (.wait _) => true | _ => false)
  | .rxScanEmit => (match s.outcome? with | some (.emit _ _) => s.room | _ => false)
  | .rxScanResync => (match s.outcome? with | some (.resync _ _) => true | _ => false)
  | .rxPass _ => s.canRefill
  | .msgqPop => s.messageReady
  | .txSend _ _ _ => true
  | .txSendClosed _ _ _ => decide (s.link = .closed)
  | .linkOpen _ => true
  | .linkClose => decide (s.link = .closed ∨ s.phase = .refill)
  | .reset => true

/-! ### Taking the commands of the inbox -/

/-- The instruction of a command: an operation as it is called, a packed message as it is decoded. -/
def commandInstr (c : WireConfig) (cmd : Command) : Instr :=
  match cmd.request with
  | .call i => i
  | .packed b => decodeMessage c b

/-- `RESET` may be applied at any time (R174): it waits behind no held command of its agent (R239). -/
def isReset (i : Instr) : Bool := decide (i = .reset)

/-- The first enabled command that is not held by an earlier command of its own agent, and the inbox without it: an
agent that holds has no step until another agent acts (00_scope.md section 7, "hold"), but for `RESET` (DESIGN
CHOICE, log entries 1, 3). -/
def pick (s : State) : List Agent → List Command → Option (Instr × List Command)
  | _, [] => none
  | held, c :: cs =>
    let i := commandInstr s.config c
    if (isReset i || !held.contains c.agent) && enabled i s then some (i, cs)
    else (pick s (c.agent :: held) cs).map fun q => (q.1, c :: q.2)

end Sys2Proof.Machine
end

