-- ==== Sys2Proof/Machine/FrameCodec.lean ====
section
/-! DEFINITION. The FrameCodec family: pure functions, no state written (spec 41_frame_codec.md). -/

namespace Sys2Proof.Machine

open Sys2Proof.Config

/-- `XOR8` (R120). -/
def execXor8 (bytes : Bytes3) (s : State) : Answer :=
  .next (s.reply (.byte (checksum8 bytes)) [])

/-- `FRAME_ENCODE` (R121). -/
def execFrameEncode (bytes : Bytes3) (s : State) : Answer :=
  .next (s.reply (.bytes (bytes7List (packFrame s.config bytes))) [])

/-- `FRAME_DECODE` (R122). -/
def execFrameDecode (window : Bytes7) (s : State) : Answer :=
  .next (s.reply (.frame (unpackFrame s.config window)) [])

/-- `FRAME_STATUS` (R123). -/
def execFrameStatus (window : Bytes7) (s : State) : Answer :=
  .next (s.reply (.flags (windowFlags s.config window)) [])

/-- `FRAME_ISVALID` (R124). -/
def execFrameIsvalid (window : Bytes7) (s : State) : Answer :=
  .next (s.reply (.truth (windowValid s.config window)) [])

end Sys2Proof.Machine
end

