-- ==== Sys2Proof/Machine/MessageCodec.lean ====
section
/-! DEFINITION. The MessageCodec family: pure functions, no state written (spec 40_message_codec.md). -/

namespace Sys2Proof.Machine

open Sys2Proof.Config

/-- `MSG_ENCODE` (R100). -/
def execMsgEncode (type : TypeCode) (index : Index) (payload : Payload) (s : State) : Answer :=
  .next (s.reply (.bytes (bytes3List (packMessage type index payload))) [])

/-- `MSG_DECODE` (R101). -/
def execMsgDecode (bytes : Bytes3) (s : State) : Answer :=
  .next (s.reply (.decoded (unpackMessage s.config bytes)) [])

/-- `INDEX_KNOWN` (R102). -/
def execIndexKnown (type : TypeCode) (index : Index) (s : State) : Answer :=
  .next (s.reply (.truth (isKnownIndex s.config type index)) [])

/-- `PAYLOAD_U` (R103). -/
def execPayloadU (payload : Payload) (s : State) : Answer :=
  .next (s.reply (.natural (unsignedReading payload)) [])

/-- `PAYLOAD_S` (R104). -/
def execPayloadS (payload : Payload) (s : State) : Answer :=
  .next (s.reply (.integer (signedReading payload)) [])

/-- `PAYLOAD_FROM_INT` (R105): refused outside the range of the reading (decision D27). -/
def execPayloadFromInt (n : Int) (signed : Bool) (s : State) : Answer :=
  match payloadFromReading n signed with
  | some p => .next (s.reply (.payload p) [])
  | none => .refused (.payloadOutOfRange n signed)

end Sys2Proof.Machine
end

