-- ==== Sys2Proof/Machine/Synchronizer.lean ====
section
/-! DEFINITION. The synchronizer family (spec 42_synchronizer.md). A step that is not enabled holds
(DESIGN CHOICE, log entry 3). -/

namespace Sys2Proof.Machine

open Sys2Proof.Config

/-- `RX_APPEND` (R141): one refill. -/
def execRxAppend (chunk : List Byte) (s : State) : Answer :=
  .next (if s.canRefill then (s.appendRx chunk).reply .none [] else s.hold)

/-- `RX_SCAN` (R142): the dispatcher; held outside a pass, and for EMIT with the queue full (R150). -/
def execRxScan (s : State) : Answer :=
  .next (scanStep s)

/-- `RX_SCAN.SHORT` (R143): outcome SHORT; held where it is not the outcome that applies. -/
def execRxScanShort (s : State) : Answer :=
  .next (match s.outcome? with
    | some .short => applyOutcome .short s
    | _ => s.hold)

/-- `RX_SCAN.DISCARD` (R144): outcome DISCARD; held where it is not the outcome that applies. -/
def execRxScanDiscard (s : State) : Answer :=
  .next (match s.outcome? with
    | some .discard => applyOutcome .discard s
    | _ => s.hold)

/-- `RX_SCAN.WAIT` (R145): outcome WAIT; held where it is not the outcome that applies. -/
def execRxScanWait (s : State) : Answer :=
  .next (match s.outcome? with
    | some (.wait p) => applyOutcome (.wait p) s
    | _ => s.hold)

/-- `RX_SCAN.EMIT` (R146): outcome EMIT; held where it is not the outcome that applies, or the queue is full (R150). -/
def execRxScanEmit (s : State) : Answer :=
  .next (match s.outcome? with
    | some (.emit p w) => applyOutcome (.emit p w) s
    | _ => s.hold)

/-- `RX_SCAN.RESYNC` (R147): outcome RESYNC; held where it is not the outcome that applies. -/
def execRxScanResync (s : State) : Answer :=
  .next (match s.outcome? with
    | some (.resync p w) => applyOutcome (.resync p w) s
    | _ => s.hold)

/-- `RX_PASS` (R148). -/
def execRxPass (chunk : List Byte) (s : State) : Answer :=
  .next (passStep chunk s)

/-- `MSGQ_POP` (R149). -/
def execMsgqPop (s : State) : Answer :=
  .next (popStep s)

end Sys2Proof.Machine
end

