-- ==== Sys2Proof/Machine/TransmitLink.lean ====
section
/-! DEFINITION. The transmit path, the link and reset (spec 43_transmit_and_link.md). -/

namespace Sys2Proof.Machine

/-- `TX_SEND` (R170). -/
def execTxSend (type : TypeCode) (index : Index) (payload : Payload) (s : State) : Answer :=
  match s.link with
  | .opened => .next ((s.transmit (sentBytes s.config type index payload)).reply .success [])
  | .closed => .next (s.reply .failure [.failLinkClosed])

/-- `TX_SEND.CLOSED` (R171): the closed-link case of `TX_SEND`; held with the link open, where R170 applies. -/
def execTxSendClosed (_type : TypeCode) (_index : Index) (_payload : Payload) (s : State) : Answer :=
  match s.link with
  | .opened => .next s.hold
  | .closed => .next (s.reply .failure [.failLinkClosed])

/-- `LINK_OPEN` (R172): `answer` is whether the transport opened. -/
def execLinkOpen (answer : Bool) (s : State) : Answer :=
  match s.link, answer with
  | .opened, _ => .next (s.reply .failure [.failLinkAlreadyOpen])
  | .closed, false => .next (s.reply .failure [.failOpenRefused])
  | .closed, true => .next (s.openLink.reply .success [])

/-- `LINK_CLOSE` (R173): held inside a pass until the pass has ended. -/
def execLinkClose (s : State) : Answer :=
  match s.link, s.phase with
  | .closed, _ => .next (s.reply .failure [.failLinkClosed])
  | .opened, .scanning => .next s.hold
  | .opened, .refill => .next (s.closeLink.reply .success [])

/-- `RESET` (R174). -/
def execReset (s : State) : Answer :=
  .next (s.clearAll.reply .none [])

end Sys2Proof.Machine
end

