-- ==== Sys2Proof/Machine/WireMessages.lean ====
section
/-! DEFINITION. The wire message family: the 62 per-id frame rows, the 4 per-type frame rows and the 4 bare message
rows (spec 44_wire_messages.md R185 to R188). A frame row is what the synchronizer does with that window at
the scan cursor (DEDUCED, log entry 9); a bare message row is `MSG_DECODE` of its 3 bytes (DEDUCED, log entry 10). -/

namespace Sys2Proof.Machine

open Sys2Proof.Config

/-- `RESPONSE` (R185). -/
def execResponse (index : Index) (payload : Payload) (checksum terminator : Byte) (s : State) : Answer :=
  .next (receiveRow (.response index payload checksum terminator) s)

/-- `STATUS` (R186). -/
def execStatus (index : Index) (payload : Payload) (checksum terminator : Byte) (s : State) : Answer :=
  .next (receiveRow (.status index payload checksum terminator) s)

/-- `WRITE_REQUEST` (R187). -/
def execWriteRequest (index : Index) (payload : Payload) (checksum terminator : Byte) (s : State) : Answer :=
  .next (receiveRow (.writeRequest index payload checksum terminator) s)

/-- `READ_REQUEST` (R188). -/
def execReadRequest (index : Index) (payload : Payload) (checksum terminator : Byte) (s : State) : Answer :=
  .next (receiveRow (.readRequest index payload checksum terminator) s)

/-- `RESPONSE.MSG` (R185). -/
def execResponseMsg (index : Index) (payload : Payload) (s : State) : Answer :=
  .next (decodeRow (.responseMsg index payload) s)

/-- `STATUS.MSG` (R186). -/
def execStatusMsg (index : Index) (payload : Payload) (s : State) : Answer :=
  .next (decodeRow (.statusMsg index payload) s)

/-- `WRITE_REQUEST.MSG` (R187). -/
def execWriteRequestMsg (index : Index) (payload : Payload) (s : State) : Answer :=
  .next (decodeRow (.writeRequestMsg index payload) s)

/-- `READ_REQUEST.MSG` (R188). -/
def execReadRequestMsg (index : Index) (payload : Payload) (s : State) : Answer :=
  .next (decodeRow (.readRequestMsg index payload) s)

/-- `RESPONSE.0x00` (R185). -/
def execResponse00 (payload : Payload) (checksum terminator : Byte) (s : State) : Answer :=
  .next (receiveRow (.response00 payload checksum terminator) s)

/-- `RESPONSE.0x01` (R185). -/
def execResponse01 (payload : Payload) (checksum terminator : Byte) (s : State) : Answer :=
  .next (receiveRow (.response01 payload checksum terminator) s)

/-- `RESPONSE.0x02` (R185). -/
def execResponse02 (payload : Payload) (checksum terminator : Byte) (s : State) : Answer :=
  .next (receiveRow (.response02 payload checksum terminator) s)

/-- `RESPONSE.0x03` (R185). -/
def execResponse03 (payload : Payload) (checksum terminator : Byte) (s : State) : Answer :=
  .next (receiveRow (.response03 payload checksum terminator) s)

/-- `RESPONSE.0x04` (R185). -/
def execResponse04 (payload : Payload) (checksum terminator : Byte) (s : State) : Answer :=
  .next (receiveRow (.response04 payload checksum terminator) s)

/-- `RESPONSE.0x05` (R185). -/
def execResponse05 (payload : Payload) (checksum terminator : Byte) (s : State) : Answer :=
  .next (receiveRow (.response05 payload checksum terminator) s)

/-- `RESPONSE.0x06` (R185). -/
def execResponse06 (payload : Payload) (checksum terminator : Byte) (s : State) : Answer :=
  .next (receiveRow (.response06 payload checksum terminator) s)

/-- `RESPONSE.0x07` (R185). -/
def execResponse07 (payload : Payload) (checksum terminator : Byte) (s : State) : Answer :=
  .next (receiveRow (.response07 payload checksum terminator) s)

/-- `RESPONSE.0x08` (R185). -/
def execResponse08 (payload : Payload) (checksum terminator : Byte) (s : State) : Answer :=
  .next (receiveRow (.response08 payload checksum terminator) s)

/-- `RESPONSE.0x09` (R185). -/
def execResponse09 (payload : Payload) (checksum terminator : Byte) (s : State) : Answer :=
  .next (receiveRow (.response09 payload checksum terminator) s)

/-- `RESPONSE.0x0A` (R185). -/
def execResponse0A (payload : Payload) (checksum terminator : Byte) (s : State) : Answer :=
  .next (receiveRow (.response0A payload checksum terminator) s)

/-- `RESPONSE.0x0B` (R185). -/
def execResponse0B (payload : Payload) (checksum terminator : Byte) (s : State) : Answer :=
  .next (receiveRow (.response0B payload checksum terminator) s)

/-- `RESPONSE.0x0C` (R185). -/
def execResponse0C (payload : Payload) (checksum terminator : Byte) (s : State) : Answer :=
  .next (receiveRow (.response0C payload checksum terminator) s)

/-- `RESPONSE.0x0D` (R185). -/
def execResponse0D (payload : Payload) (checksum terminator : Byte) (s : State) : Answer :=
  .next (receiveRow (.response0D payload checksum terminator) s)

/-- `RESPONSE.0x0E` (R185). -/
def execResponse0E (payload : Payload) (checksum terminator : Byte) (s : State) : Answer :=
  .next (receiveRow (.response0E payload checksum terminator) s)

/-- `RESPONSE.0x0F` (R185). -/
def execResponse0F (payload : Payload) (checksum terminator : Byte) (s : State) : Answer :=
  .next (receiveRow (.response0F payload checksum terminator) s)

/-- `RESPONSE.0x10` (R185). -/
def execResponse10 (payload : Payload) (checksum terminator : Byte) (s : State) : Answer :=
  .next (receiveRow (.response10 payload checksum terminator) s)

/-- `STATUS.0x00` (R186). -/
def execStatus00 (payload : Payload) (checksum terminator : Byte) (s : State) : Answer :=
  .next (receiveRow (.status00 payload checksum terminator) s)

/-- `STATUS.0x01` (R186). -/
def execStatus01 (payload : Payload) (checksum terminator : Byte) (s : State) : Answer :=
  .next (receiveRow (.status01 payload checksum terminator) s)

/-- `STATUS.0x02` (R186). -/
def execStatus02 (payload : Payload) (checksum terminator : Byte) (s : State) : Answer :=
  .next (receiveRow (.status02 payload checksum terminator) s)

/-- `STATUS.0x10` (R186). -/
def execStatus10 (payload : Payload) (checksum terminator : Byte) (s : State) : Answer :=
  .next (receiveRow (.status10 payload checksum terminator) s)

/-- `STATUS.0x11` (R186). -/
def execStatus11 (payload : Payload) (checksum terminator : Byte) (s : State) : Answer :=
  .next (receiveRow (.status11 payload checksum terminator) s)

/-- `STATUS.0x12` (R186). -/
def execStatus12 (payload : Payload) (checksum terminator : Byte) (s : State) : Answer :=
  .next (receiveRow (.status12 payload checksum terminator) s)

/-- `STATUS.0x13` (R186). -/
def execStatus13 (payload : Payload) (checksum terminator : Byte) (s : State) : Answer :=
  .next (receiveRow (.status13 payload checksum terminator) s)

/-- `STATUS.0x14` (R186). -/
def execStatus14 (payload : Payload) (checksum terminator : Byte) (s : State) : Answer :=
  .next (receiveRow (.status14 payload checksum terminator) s)

/-- `STATUS.0x15` (R186). -/
def execStatus15 (payload : Payload) (checksum terminator : Byte) (s : State) : Answer :=
  .next (receiveRow (.status15 payload checksum terminator) s)

/-- `STATUS.0x3E` (R186). -/
def execStatus3E (payload : Payload) (checksum terminator : Byte) (s : State) : Answer :=
  .next (receiveRow (.status3E payload checksum terminator) s)

/-- `STATUS.0x3F` (R186). -/
def execStatus3F (payload : Payload) (checksum terminator : Byte) (s : State) : Answer :=
  .next (receiveRow (.status3F payload checksum terminator) s)

/-- `WRITE_REQUEST.0x00` (R187). -/
def execWriteRequest00 (payload : Payload) (checksum terminator : Byte) (s : State) : Answer :=
  .next (receiveRow (.writeRequest00 payload checksum terminator) s)

/-- `WRITE_REQUEST.0x01` (R187). -/
def execWriteRequest01 (payload : Payload) (checksum terminator : Byte) (s : State) : Answer :=
  .next (receiveRow (.writeRequest01 payload checksum terminator) s)

/-- `WRITE_REQUEST.0x02` (R187). -/
def execWriteRequest02 (payload : Payload) (checksum terminator : Byte) (s : State) : Answer :=
  .next (receiveRow (.writeRequest02 payload checksum terminator) s)

/-- `WRITE_REQUEST.0x03` (R187). -/
def execWriteRequest03 (payload : Payload) (checksum terminator : Byte) (s : State) : Answer :=
  .next (receiveRow (.writeRequest03 payload checksum terminator) s)

/-- `WRITE_REQUEST.0x04` (R187). -/
def execWriteRequest04 (payload : Payload) (checksum terminator : Byte) (s : State) : Answer :=
  .next (receiveRow (.writeRequest04 payload checksum terminator) s)

/-- `WRITE_REQUEST.0x05` (R187). -/
def execWriteRequest05 (payload : Payload) (checksum terminator : Byte) (s : State) : Answer :=
  .next (receiveRow (.writeRequest05 payload checksum terminator) s)

/-- `WRITE_REQUEST.0x06` (R187). -/
def execWriteRequest06 (payload : Payload) (checksum terminator : Byte) (s : State) : Answer :=
  .next (receiveRow (.writeRequest06 payload checksum terminator) s)

/-- `WRITE_REQUEST.0x07` (R187). -/
def execWriteRequest07 (payload : Payload) (checksum terminator : Byte) (s : State) : Answer :=
  .next (receiveRow (.writeRequest07 payload checksum terminator) s)

/-- `WRITE_REQUEST.0x08` (R187). -/
def execWriteRequest08 (payload : Payload) (checksum terminator : Byte) (s : State) : Answer :=
  .next (receiveRow (.writeRequest08 payload checksum terminator) s)

/-- `WRITE_REQUEST.0x09` (R187). -/
def execWriteRequest09 (payload : Payload) (checksum terminator : Byte) (s : State) : Answer :=
  .next (receiveRow (.writeRequest09 payload checksum terminator) s)

/-- `WRITE_REQUEST.0x0A` (R187). -/
def execWriteRequest0A (payload : Payload) (checksum terminator : Byte) (s : State) : Answer :=
  .next (receiveRow (.writeRequest0A payload checksum terminator) s)

/-- `WRITE_REQUEST.0x0B` (R187). -/
def execWriteRequest0B (payload : Payload) (checksum terminator : Byte) (s : State) : Answer :=
  .next (receiveRow (.writeRequest0B payload checksum terminator) s)

/-- `WRITE_REQUEST.0x0C` (R187). -/
def execWriteRequest0C (payload : Payload) (checksum terminator : Byte) (s : State) : Answer :=
  .next (receiveRow (.writeRequest0C payload checksum terminator) s)

/-- `WRITE_REQUEST.0x0D` (R187). -/
def execWriteRequest0D (payload : Payload) (checksum terminator : Byte) (s : State) : Answer :=
  .next (receiveRow (.writeRequest0D payload checksum terminator) s)

/-- `WRITE_REQUEST.0x0E` (R187). -/
def execWriteRequest0E (payload : Payload) (checksum terminator : Byte) (s : State) : Answer :=
  .next (receiveRow (.writeRequest0E payload checksum terminator) s)

/-- `WRITE_REQUEST.0x0F` (R187). -/
def execWriteRequest0F (payload : Payload) (checksum terminator : Byte) (s : State) : Answer :=
  .next (receiveRow (.writeRequest0F payload checksum terminator) s)

/-- `WRITE_REQUEST.0x10` (R187). -/
def execWriteRequest10 (payload : Payload) (checksum terminator : Byte) (s : State) : Answer :=
  .next (receiveRow (.writeRequest10 payload checksum terminator) s)

/-- `READ_REQUEST.0x00` (R188). -/
def execReadRequest00 (payload : Payload) (checksum terminator : Byte) (s : State) : Answer :=
  .next (receiveRow (.readRequest00 payload checksum terminator) s)

/-- `READ_REQUEST.0x01` (R188). -/
def execReadRequest01 (payload : Payload) (checksum terminator : Byte) (s : State) : Answer :=
  .next (receiveRow (.readRequest01 payload checksum terminator) s)

/-- `READ_REQUEST.0x02` (R188). -/
def execReadRequest02 (payload : Payload) (checksum terminator : Byte) (s : State) : Answer :=
  .next (receiveRow (.readRequest02 payload checksum terminator) s)

/-- `READ_REQUEST.0x03` (R188). -/
def execReadRequest03 (payload : Payload) (checksum terminator : Byte) (s : State) : Answer :=
  .next (receiveRow (.readRequest03 payload checksum terminator) s)

/-- `READ_REQUEST.0x04` (R188). -/
def execReadRequest04 (payload : Payload) (checksum terminator : Byte) (s : State) : Answer :=
  .next (receiveRow (.readRequest04 payload checksum terminator) s)

/-- `READ_REQUEST.0x05` (R188). -/
def execReadRequest05 (payload : Payload) (checksum terminator : Byte) (s : State) : Answer :=
  .next (receiveRow (.readRequest05 payload checksum terminator) s)

/-- `READ_REQUEST.0x06` (R188). -/
def execReadRequest06 (payload : Payload) (checksum terminator : Byte) (s : State) : Answer :=
  .next (receiveRow (.readRequest06 payload checksum terminator) s)

/-- `READ_REQUEST.0x07` (R188). -/
def execReadRequest07 (payload : Payload) (checksum terminator : Byte) (s : State) : Answer :=
  .next (receiveRow (.readRequest07 payload checksum terminator) s)

/-- `READ_REQUEST.0x08` (R188). -/
def execReadRequest08 (payload : Payload) (checksum terminator : Byte) (s : State) : Answer :=
  .next (receiveRow (.readRequest08 payload checksum terminator) s)

/-- `READ_REQUEST.0x09` (R188). -/
def execReadRequest09 (payload : Payload) (checksum terminator : Byte) (s : State) : Answer :=
  .next (receiveRow (.readRequest09 payload checksum terminator) s)

/-- `READ_REQUEST.0x0A` (R188). -/
def execReadRequest0A (payload : Payload) (checksum terminator : Byte) (s : State) : Answer :=
  .next (receiveRow (.readRequest0A payload checksum terminator) s)

/-- `READ_REQUEST.0x0B` (R188). -/
def execReadRequest0B (payload : Payload) (checksum terminator : Byte) (s : State) : Answer :=
  .next (receiveRow (.readRequest0B payload checksum terminator) s)

/-- `READ_REQUEST.0x0C` (R188). -/
def execReadRequest0C (payload : Payload) (checksum terminator : Byte) (s : State) : Answer :=
  .next (receiveRow (.readRequest0C payload checksum terminator) s)

/-- `READ_REQUEST.0x0D` (R188). -/
def execReadRequest0D (payload : Payload) (checksum terminator : Byte) (s : State) : Answer :=
  .next (receiveRow (.readRequest0D payload checksum terminator) s)

/-- `READ_REQUEST.0x0E` (R188). -/
def execReadRequest0E (payload : Payload) (checksum terminator : Byte) (s : State) : Answer :=
  .next (receiveRow (.readRequest0E payload checksum terminator) s)

/-- `READ_REQUEST.0x0F` (R188). -/
def execReadRequest0F (payload : Payload) (checksum terminator : Byte) (s : State) : Answer :=
  .next (receiveRow (.readRequest0F payload checksum terminator) s)

/-- `READ_REQUEST.0x10` (R188). -/
def execReadRequest10 (payload : Payload) (checksum terminator : Byte) (s : State) : Answer :=
  .next (receiveRow (.readRequest10 payload checksum terminator) s)

end Sys2Proof.Machine
end

