-- ==== Sys2Proof/Machine/Dispatch.lean ====
section
/-! DEFINITION. The dispatch: one arm for each row of the opcode table, each a call of its meaning. -/

namespace Sys2Proof.Machine

def exec (i : Instr) (s : State) : Host.Outcome State Fault Refusal :=
  match i with
  | .response index payload checksum terminator => Sys2Proof.Machine.execResponse index payload checksum terminator s
  | .status index payload checksum terminator => Sys2Proof.Machine.execStatus index payload checksum terminator s
  | .writeRequest index payload checksum terminator => Sys2Proof.Machine.execWriteRequest index payload checksum terminator s
  | .readRequest index payload checksum terminator => Sys2Proof.Machine.execReadRequest index payload checksum terminator s
  | .responseMsg index payload => Sys2Proof.Machine.execResponseMsg index payload s
  | .statusMsg index payload => Sys2Proof.Machine.execStatusMsg index payload s
  | .writeRequestMsg index payload => Sys2Proof.Machine.execWriteRequestMsg index payload s
  | .readRequestMsg index payload => Sys2Proof.Machine.execReadRequestMsg index payload s
  | .response00 payload checksum terminator => Sys2Proof.Machine.execResponse00 payload checksum terminator s
  | .response01 payload checksum terminator => Sys2Proof.Machine.execResponse01 payload checksum terminator s
  | .response02 payload checksum terminator => Sys2Proof.Machine.execResponse02 payload checksum terminator s
  | .response03 payload checksum terminator => Sys2Proof.Machine.execResponse03 payload checksum terminator s
  | .response04 payload checksum terminator => Sys2Proof.Machine.execResponse04 payload checksum terminator s
  | .response05 payload checksum terminator => Sys2Proof.Machine.execResponse05 payload checksum terminator s
  | .response06 payload checksum terminator => Sys2Proof.Machine.execResponse06 payload checksum terminator s
  | .response07 payload checksum terminator => Sys2Proof.Machine.execResponse07 payload checksum terminator s
  | .response08 payload checksum terminator => Sys2Proof.Machine.execResponse08 payload checksum terminator s
  | .response09 payload checksum terminator => Sys2Proof.Machine.execResponse09 payload checksum terminator s
  | .response0A payload checksum terminator => Sys2Proof.Machine.execResponse0A payload checksum terminator s
  | .response0B payload checksum terminator => Sys2Proof.Machine.execResponse0B payload checksum terminator s
  | .response0C payload checksum terminator => Sys2Proof.Machine.execResponse0C payload checksum terminator s
  | .response0D payload checksum terminator => Sys2Proof.Machine.execResponse0D payload checksum terminator s
  | .response0E payload checksum terminator => Sys2Proof.Machine.execResponse0E payload checksum terminator s
  | .response0F payload checksum terminator => Sys2Proof.Machine.execResponse0F payload checksum terminator s
  | .response10 payload checksum terminator => Sys2Proof.Machine.execResponse10 payload checksum terminator s
  | .status00 payload checksum terminator => Sys2Proof.Machine.execStatus00 payload checksum terminator s
  | .status01 payload checksum terminator => Sys2Proof.Machine.execStatus01 payload checksum terminator s
  | .status02 payload checksum terminator => Sys2Proof.Machine.execStatus02 payload checksum terminator s
  | .status10 payload checksum terminator => Sys2Proof.Machine.execStatus10 payload checksum terminator s
  | .status11 payload checksum terminator => Sys2Proof.Machine.execStatus11 payload checksum terminator s
  | .status12 payload checksum terminator => Sys2Proof.Machine.execStatus12 payload checksum terminator s
  | .status13 payload checksum terminator => Sys2Proof.Machine.execStatus13 payload checksum terminator s
  | .status14 payload checksum terminator => Sys2Proof.Machine.execStatus14 payload checksum terminator s
  | .status15 payload checksum terminator => Sys2Proof.Machine.execStatus15 payload checksum terminator s
  | .status3E payload checksum terminator => Sys2Proof.Machine.execStatus3E payload checksum terminator s
  | .status3F payload checksum terminator => Sys2Proof.Machine.execStatus3F payload checksum terminator s
  | .writeRequest00 payload checksum terminator => Sys2Proof.Machine.execWriteRequest00 payload checksum terminator s
  | .writeRequest01 payload checksum terminator => Sys2Proof.Machine.execWriteRequest01 payload checksum terminator s
  | .writeRequest02 payload checksum terminator => Sys2Proof.Machine.execWriteRequest02 payload checksum terminator s
  | .writeRequest03 payload checksum terminator => Sys2Proof.Machine.execWriteRequest03 payload checksum terminator s
  | .writeRequest04 payload checksum terminator => Sys2Proof.Machine.execWriteRequest04 payload checksum terminator s
  | .writeRequest05 payload checksum terminator => Sys2Proof.Machine.execWriteRequest05 payload checksum terminator s
  | .writeRequest06 payload checksum terminator => Sys2Proof.Machine.execWriteRequest06 payload checksum terminator s
  | .writeRequest07 payload checksum terminator => Sys2Proof.Machine.execWriteRequest07 payload checksum terminator s
  | .writeRequest08 payload checksum terminator => Sys2Proof.Machine.execWriteRequest08 payload checksum terminator s
  | .writeRequest09 payload checksum terminator => Sys2Proof.Machine.execWriteRequest09 payload checksum terminator s
  | .writeRequest0A payload checksum terminator => Sys2Proof.Machine.execWriteRequest0A payload checksum terminator s
  | .writeRequest0B payload checksum terminator => Sys2Proof.Machine.execWriteRequest0B payload checksum terminator s
  | .writeRequest0C payload checksum terminator => Sys2Proof.Machine.execWriteRequest0C payload checksum terminator s
  | .writeRequest0D payload checksum terminator => Sys2Proof.Machine.execWriteRequest0D payload checksum terminator s
  | .writeRequest0E payload checksum terminator => Sys2Proof.Machine.execWriteRequest0E payload checksum terminator s
  | .writeRequest0F payload checksum terminator => Sys2Proof.Machine.execWriteRequest0F payload checksum terminator s
  | .writeRequest10 payload checksum terminator => Sys2Proof.Machine.execWriteRequest10 payload checksum terminator s
  | .readRequest00 payload checksum terminator => Sys2Proof.Machine.execReadRequest00 payload checksum terminator s
  | .readRequest01 payload checksum terminator => Sys2Proof.Machine.execReadRequest01 payload checksum terminator s
  | .readRequest02 payload checksum terminator => Sys2Proof.Machine.execReadRequest02 payload checksum terminator s
  | .readRequest03 payload checksum terminator => Sys2Proof.Machine.execReadRequest03 payload checksum terminator s
  | .readRequest04 payload checksum terminator => Sys2Proof.Machine.execReadRequest04 payload checksum terminator s
  | .readRequest05 payload checksum terminator => Sys2Proof.Machine.execReadRequest05 payload checksum terminator s
  | .readRequest06 payload checksum terminator => Sys2Proof.Machine.execReadRequest06 payload checksum terminator s
  | .readRequest07 payload checksum terminator => Sys2Proof.Machine.execReadRequest07 payload checksum terminator s
  | .readRequest08 payload checksum terminator => Sys2Proof.Machine.execReadRequest08 payload checksum terminator s
  | .readRequest09 payload checksum terminator => Sys2Proof.Machine.execReadRequest09 payload checksum terminator s
  | .readRequest0A payload checksum terminator => Sys2Proof.Machine.execReadRequest0A payload checksum terminator s
  | .readRequest0B payload checksum terminator => Sys2Proof.Machine.execReadRequest0B payload checksum terminator s
  | .readRequest0C payload checksum terminator => Sys2Proof.Machine.execReadRequest0C payload checksum terminator s
  | .readRequest0D payload checksum terminator => Sys2Proof.Machine.execReadRequest0D payload checksum terminator s
  | .readRequest0E payload checksum terminator => Sys2Proof.Machine.execReadRequest0E payload checksum terminator s
  | .readRequest0F payload checksum terminator => Sys2Proof.Machine.execReadRequest0F payload checksum terminator s
  | .readRequest10 payload checksum terminator => Sys2Proof.Machine.execReadRequest10 payload checksum terminator s
  | .msgEncode type index payload => Sys2Proof.Machine.execMsgEncode type index payload s
  | .msgDecode bytes => Sys2Proof.Machine.execMsgDecode bytes s
  | .indexKnown type index => Sys2Proof.Machine.execIndexKnown type index s
  | .payloadU payload => Sys2Proof.Machine.execPayloadU payload s
  | .payloadS payload => Sys2Proof.Machine.execPayloadS payload s
  | .payloadFromInt n signed => Sys2Proof.Machine.execPayloadFromInt n signed s
  | .xor8 bytes => Sys2Proof.Machine.execXor8 bytes s
  | .frameEncode bytes => Sys2Proof.Machine.execFrameEncode bytes s
  | .frameDecode window => Sys2Proof.Machine.execFrameDecode window s
  | .frameStatus window => Sys2Proof.Machine.execFrameStatus window s
  | .frameIsvalid window => Sys2Proof.Machine.execFrameIsvalid window s
  | .rxAppend chunk => Sys2Proof.Machine.execRxAppend chunk s
  | .rxScan => Sys2Proof.Machine.execRxScan s
  | .rxScanShort => Sys2Proof.Machine.execRxScanShort s
  | .rxScanDiscard => Sys2Proof.Machine.execRxScanDiscard s
  | .rxScanWait => Sys2Proof.Machine.execRxScanWait s
  | .rxScanEmit => Sys2Proof.Machine.execRxScanEmit s
  | .rxScanResync => Sys2Proof.Machine.execRxScanResync s
  | .rxPass chunk => Sys2Proof.Machine.execRxPass chunk s
  | .msgqPop => Sys2Proof.Machine.execMsgqPop s
  | .txSend type index payload => Sys2Proof.Machine.execTxSend type index payload s
  | .txSendClosed type index payload => Sys2Proof.Machine.execTxSendClosed type index payload s
  | .linkOpen answer => Sys2Proof.Machine.execLinkOpen answer s
  | .linkClose => Sys2Proof.Machine.execLinkClose s
  | .reset => Sys2Proof.Machine.execReset s

end Sys2Proof.Machine
end

