-- ==== Sys2Proof/Machine/Step.lean ====
section
/-! DEFINITION. The step: the next enabled command of the environment, or else the synchronizer's own scan,
which fetches the window at the scan cursor, decodes it and runs it (spec 60_exceptions.md R217; 00_scope.md
section 6). -/

namespace Sys2Proof.Machine

/-- The synchronizer's own step inside a pass. A whole window is fetched, decoded and run; a window that is no
row of the table is rejected (R69, R147); without a whole window the scan step is SHORT, DISCARD or WAIT. -/
def scanTurn (s : State) : Host.Outcome State Fault Refusal :=
  match s.window? with
  | some (p, w) =>
    match decodeFrame s.config w with
    | .ok i => exec i s
    | .error _ => .next (rejectWindow p w s)
  | none => exec .rxScan s

/-- One step of the block. With no enabled command and no pass to go on with, no agent has a step and nothing
changes but the outputs: `hold` where commands wait, `none` where there are none (R231; DESIGN CHOICE, log
entries 3, 4). -/
def step (s : State) : Host.Outcome State Fault Refusal :=
  match pick s [] s.inbox with
  | some (i, rest) => exec i { s with inbox := rest }
  | none => if s.inPass then scanTurn s else .next (if s.inbox.isEmpty then s.reply .none [] else s.hold)

/-- The word stored where `step` fetches next (DESIGN CHOICE, log entry 2): a frame at the head of the receive buffer of a
receiver that stands inside a pass, a packed message as the only command of the inbox. -/
def State.withFetchWord (s : State) (nbits w : Nat) : State :=
  if nbits = 0 then s
  else if nbits ≤ 24 then { s with inbox := [⟨.consumer, .packed (bytes3OfNat w)⟩] }
  else
    { s with
      link := .opened, phase := .scanning, inbox := [],
      rxbuf := bytes7List (bytes7OfNat w) ++ s.rxbuf.drop 7 }

end Sys2Proof.Machine
end

