-- ==== Sys2Proof/Safety.lean ====
section
/-! DEFINITION. The terms the claims are written in: the invariants of R33, the states the agents can bring
about (R217), the greedy scanner of R151, and what is observable of a state. -/

namespace Sys2Proof.Safety

open Sys2Proof.Config Sys2Proof.Machine

/-- A message is well-formed when its index is in the enumeration its type selects (R27). -/
def messageKnown (c : WireConfig) (m : Message) : Prop := isKnownIndex c m.type m.index = true

/-- The bytes are whole frames of messages, back to back (R33 item 3, R51). -/
def SentFrames (c : WireConfig) (bs : List Byte) : Prop :=
  ∃ ms : List Message, bs = ms.flatMap fun m => bytes7List (frameOf c m)

/-- The invariants of R33, one field for each item; the capacity is positive as R9 says and the
wire constants are as R8 says. -/
structure BlockInv (s : State) : Prop where
  /-- R33 item 1 -/
  cursor : s.link = .opened → s.rxbuf = s.rxhist.drop s.consumed ∧ s.consumed ≤ s.rxhist.length
  /-- R33 item 2 -/
  queueKnown : ∀ m ∈ s.msgq, messageKnown s.config m
  /-- R33 item 3 -/
  sentWhole : SentFrames s.config s.txstream
  /-- R33 item 4, and R9: a positive natural number or unbounded -/
  queueBound : ∀ cap, s.msgqCap = some cap → 0 < cap ∧ s.msgq.length ≤ cap
  /-- R33 item 5 -/
  closedEmpty : s.link = .closed → s.phase = .refill ∧ s.rxbuf = []
  /-- R33 item 6 -/
  passEnded : s.phase = .refill → s.config.frameLen ≤ s.rxbuf.length →
    ∃ p, firstIndex s.config.start s.rxbuf = some p ∧ s.rxbuf.length - p < s.config.frameLen
  /-- R8: what the rules use of the wire constants -/
  constants : s.config.wf = true

/-- The states that the agents can bring about from reset, at any positive capacity of the queue, any wire
constants as R8 says and with any inputs waiting, by instructions of a class, in any order (R217). -/
inductive ReachableBy (allowed : Instr → Prop) : State → Prop where
  | reset (cap : Option Nat) (c : WireConfig) : cap ≠ some 0 → c.wf = true →
      ReachableBy allowed { State.reset with msgqCap := cap, config := c }
  | inputs (s : State) (cs : List Command) : ReachableBy allowed s → ReachableBy allowed { s with inbox := cs }
  | exec (i : Instr) (s t : State) : ReachableBy allowed s → allowed i → exec i s = .next t → ReachableBy allowed t

/-- The reachable states: every instruction is allowed. -/
abbrev Reachable (s : State) : Prop := ReachableBy (fun _ => True) s

/-- Every refill of the instruction has at most `L` bytes (R153). -/
def refillAtMost (L : Nat) (i : Instr) : Prop :=
  match i with
  | .rxAppend chunk | .rxPass chunk => chunk.length ≤ L
  | _ => True

/-- The greedy scanner `G` of R151, with fuel for its recursion. -/
def greedyFrom (c : WireConfig) (h : List Byte) : Nat → Nat → List Message → List Message
  | 0, _, out => out
  | fuel + 1, cur, out =>
    match firstIndex c.start (h.drop cur) with
    | none => out
    | some k =>
      match windowAt c h (cur + k) with
      | none => out
      | some w =>
        if windowValid c w then
          greedyFrom c h fuel (cur + k + c.frameLen) (out ++ [messageOf (unpackMessage c (windowMessage w))])
        else greedyFrom c h fuel (cur + k + 1) out

/-- `G(h, cur, out)` (R151): each turn moves the cursor, so one more turn than bytes is enough. -/
def greedy (c : WireConfig) (h : List Byte) (cur : Nat) (out : List Message) : List Message :=
  greedyFrom c h (h.length + 1) cur out

/-- The state without its outputs: what a step leaves of it besides the returned value and the labels. -/
def silent (s : State) : State := s.reply .none []

/-- The state without its outputs and its ghosts: all that an operation may depend on (R26, R214). -/
def observable (s : State) : State := { silent s with rxhist := [], consumed := 0, emitted := [] }

/-- `k` steps of `RX_SCAN` in a row (R148). -/
def scans : Nat → State → State
  | 0, s => s
  | k + 1, s =>
    match exec .rxScan s with
    | .next t => scans k t
    | .fault _ | .refused _ => s

/-- The instructions that scan the receive buffer: `RX_SCAN` and its outcome rows, `RX_PASS`, and the frame
rows (R20, column "Written by"). -/
def isScan (i : Instr) : Bool :=
  match i with
  | .rxScan | .rxScanShort | .rxScanDiscard | .rxScanWait | .rxScanEmit | .rxScanResync | .rxPass _ => true
  | _ => (frameRow? i).isSome

/-- The instructions that refill the receive buffer. -/
def isRefill (i : Instr) : Bool :=
  match i with
  | .rxAppend _ | .rxPass _ => true
  | _ => false

/-- A window with error bytes (R127). -/
def withError (w e : Bytes7) : Bytes7 :=
  ⟨w.b0 ^^^ e.b0, w.b1 ^^^ e.b1, w.b2 ^^^ e.b2, w.b3 ^^^ e.b3, w.b4 ^^^ e.b4, w.b5 ^^^ e.b5, w.b6 ^^^ e.b6⟩

/-- The error bytes that flip bit `b` of byte `k` (R126). -/
def bitError (k : Fin 7) (b : Fin 8) : Bytes7 :=
  let at_ (j : Fin 7) : Byte := if k = j then 1#8 <<< b.val else 0
  ⟨at_ 0, at_ 1, at_ 2, at_ 3, at_ 4, at_ 5, at_ 6⟩

/-- The 62 legal id bytes of R67. -/
def legalIdBytes : List Byte :=
  [0x00, 0x01, 0x02, 0x03, 0x04, 0x05, 0x06, 0x07, 0x08, 0x09, 0x0A, 0x0B,
   0x0C, 0x0D, 0x0E, 0x0F, 0x10, 0x40, 0x41, 0x42, 0x50, 0x51, 0x52, 0x53,
   0x54, 0x55, 0x7E, 0x7F, 0x80, 0x81, 0x82, 0x83, 0x84, 0x85, 0x86, 0x87,
   0x88, 0x89, 0x8A, 0x8B, 0x8C, 0x8D, 0x8E, 0x8F, 0x90, 0xC0, 0xC1, 0xC2,
   0xC3, 0xC4, 0xC5, 0xC6, 0xC7, 0xC8, 0xC9, 0xCA, 0xCB, 0xCC, 0xCD, 0xCE,
   0xCF, 0xD0]

/-- The per-id rows of `RESPONSE`, each with its index (R67). -/
def responseRows : List (Index × (Payload → Byte → Byte → Instr)) :=
  [(0x00, .response00), (0x01, .response01), (0x02, .response02), (0x03, .response03), (0x04, .response04),
   (0x05, .response05), (0x06, .response06), (0x07, .response07), (0x08, .response08), (0x09, .response09),
   (0x0A, .response0A), (0x0B, .response0B), (0x0C, .response0C), (0x0D, .response0D), (0x0E, .response0E),
   (0x0F, .response0F), (0x10, .response10)]

/-- The per-id rows of `STATUS`, each with its index (R67). -/
def statusRows : List (Index × (Payload → Byte → Byte → Instr)) :=
  [(0x00, .status00), (0x01, .status01), (0x02, .status02), (0x10, .status10), (0x11, .status11),
   (0x12, .status12), (0x13, .status13), (0x14, .status14), (0x15, .status15), (0x3E, .status3E),
   (0x3F, .status3F)]

/-- The per-id rows of `WRITE_REQUEST`, each with its index (R67). -/
def writeRequestRows : List (Index × (Payload → Byte → Byte → Instr)) :=
  [(0x00, .writeRequest00), (0x01, .writeRequest01), (0x02, .writeRequest02), (0x03, .writeRequest03), (0x04, .writeRequest04),
   (0x05, .writeRequest05), (0x06, .writeRequest06), (0x07, .writeRequest07), (0x08, .writeRequest08), (0x09, .writeRequest09),
   (0x0A, .writeRequest0A), (0x0B, .writeRequest0B), (0x0C, .writeRequest0C), (0x0D, .writeRequest0D), (0x0E, .writeRequest0E),
   (0x0F, .writeRequest0F), (0x10, .writeRequest10)]

/-- The per-id rows of `READ_REQUEST`, each with its index (R67). -/
def readRequestRows : List (Index × (Payload → Byte → Byte → Instr)) :=
  [(0x00, .readRequest00), (0x01, .readRequest01), (0x02, .readRequest02), (0x03, .readRequest03), (0x04, .readRequest04),
   (0x05, .readRequest05), (0x06, .readRequest06), (0x07, .readRequest07), (0x08, .readRequest08), (0x09, .readRequest09),
   (0x0A, .readRequest0A), (0x0B, .readRequest0B), (0x0C, .readRequest0C), (0x0D, .readRequest0D), (0x0E, .readRequest0E),
   (0x0F, .readRequest0F), (0x10, .readRequest10)]

/-- Whether a list of rows has a row for an index. -/
def hasRow (rows : List (Index × (Payload → Byte → Byte → Instr))) (index : Index) : Bool :=
  rows.any fun row => row.1 == index

/-- A per-type row with an index that the table has a row for: its words are the per-id row's, which the decoder
answers (log entry 8). -/
def secondSpelling (i : Instr) : Bool :=
  match i with
  | .response index _ _ _ => hasRow responseRows index
  | .status index _ _ _ => hasRow statusRows index
  | .writeRequest index _ _ _ => hasRow writeRequestRows index
  | .readRequest index _ _ _ => hasRow readRequestRows index
  | _ => false

end Sys2Proof.Safety
end

