-- ==== Sys2Proof/Certificates/Slice0/Obligations.lean ====
section
/-! DEFINITION. The statements for the provers. In an equation for a next state, `result` and `labels` are the
model's record of what the step returns and of its label (log entry 6); every field that the record update does
not name is unchanged. The wire constants are those of a configuration record, as R8 asks: any record `c`, or the
one that the state holds (log entry 19); `hw` is this hardware's. -/

open Sys2Proof Sys2Proof.Config Sys2Proof.Machine Sys2Proof.Safety

/-! ### Encoding -/

/-- Every row that has an encoding is read back from its own bytes, at every value of its operands; the one
exception is a per-type row with an index that the table has a row for: its words are decoded to the per-id row, which
is the model's choice (log entry 8). -/
def Obligations.DecodeReadsEveryEncodedRow : Prop :=
  ∀ (c : WireConfig) (i : Instr) (bytes : List Byte), c.wf = true → encode c i = some bytes →
    ∃ j, decode c bytes = .ok j ∧ encode c j = some bytes ∧ (secondSpelling i = false → j = i)

/-- What the decoder answers encodes to the bytes it was read from: no bit of a word is dropped. -/
def Obligations.EncodeGivesBackDecodedBytes : Prop :=
  ∀ (c : WireConfig) (bytes : List Byte) (i : Instr), c.wf = true → decode c bytes = .ok i → encode c i = some bytes

/-- The second spelling of a frame means what the row that the decoder answers means (log entry 8). -/
def Obligations.SecondSpellingMeansTheSame : Prop :=
  ∀ (i j : Instr) (bytes : List Byte) (s : State), s.config.wf = true →
    encode s.config i = some bytes → decode s.config bytes = .ok j → exec i s = exec j s

/-- The frame decoder follows the masks and matches of the opcode table (R73): a decoded window agrees with its row, and a
window that agrees with a per-id row is decoded to that row, which is the model's choice where a per-type row agrees
too (log entry 8). The matches of this hardware are those that R73 writes out. -/
def Obligations.DecodedFramesMatchTheTable : Prop :=
  (∀ (c : WireConfig) (w : Bytes7) (i : Instr), c.wf = true → decodeFrame c w = .ok i →
    ∃ mask value, rowMask? i = some mask ∧ rowMatch? c i = some value ∧ windowWord w &&& mask = value) ∧
  (∀ (c : WireConfig) (w : Bytes7) (i : Instr) (value : BitVec 56), c.wf = true →
    rowMask? i = some 0xFFFF000000FF00 → rowMatch? c i = some value → windowWord w &&& 0xFFFF000000FF00 = value →
    ∃ j, decodeFrame c w = .ok j ∧ rowMask? j = some 0xFFFF000000FF00 ∧ rowMatch? c j = some value) ∧
  (∀ (i : Instr) (f : FrameFields), frameFields? hw i = some f →
    (rowMask? i = some 0xFFFF000000FF00 ∧
      rowMatch? hw i = some (0x3A000000003B00 ||| ((f.id.setWidth 56) <<< 40))) ∨
    (rowMask? i = some 0xFFC0000000FF00 ∧
      rowMatch? hw i = some (0x3A000000003B00 ||| (((f.id &&& 0xC0).setWidth 56) <<< 40))))

/-- A frame row keeps the constraint of its table row exactly when its bytes are a valid window. -/
def Obligations.WellFormedFramesAreValidWindows : Prop :=
  ∀ (c : WireConfig) (i : Instr) (f : FrameFields), frameFields? c i = some f →
    (i.wellFormed c = true ↔ windowValid c (rowWindow c f) = true)

/-- Validity as a bit pattern over the 56-bit word (R73), and the legal id bytes of R67. -/
def Obligations.ValidityAsBitPattern : Prop :=
  (∀ w : Bytes7, windowValid hw w = true ↔
    windowWord w &&& 0xFF00000000FF00 = 0x3A000000003B00 ∧
    (windowWord w).extractLsb' 40 8 ∈ legalIdBytes ∧
    (windowWord w).extractLsb' 16 8 =
      (windowWord w).extractLsb' 40 8 ^^^ (windowWord w).extractLsb' 32 8 ^^^ (windowWord w).extractLsb' 24 8) ∧
  legalIdBytes.length = 62 ∧ legalIdBytes.Nodup ∧
  (∀ id : Byte, id ∈ legalIdBytes ↔ isKnownIndex hw (idType id) (idIndex id) = true)

/-- Words written out from the spec's encodings and the rows the decoder gives them. A legal frame agrees with its per-type
row too; that the per-id row is answered is the model's choice (log entry 8). The refusals are R69 and, for a length
that is no format, R60 and R72. -/
def Obligations.SampleWordsDecode : Prop :=
  decode hw [0x3A, 0xC7, 0x00, 0x00, 0xC7, 0x3B, 0x0A] = .ok (.readRequest07 0x0000 0xC7 0x0A) ∧
  decode hw [0x3A, 0x07, 0x05, 0xDC, 0xDE, 0x3B, 0x0A] = .ok (.response07 0x05DC 0xDE 0x0A) ∧
  decode hw [0x3A, 0x7F, 0xFF, 0xFF, 0x7F, 0x3B, 0x0A] = .ok (.status3F 0xFFFF 0x7F 0x0A) ∧
  decode hw [0x3A, 0x8C, 0x00, 0x01, 0x8D, 0x3B, 0x0A] = .ok (.writeRequest0C 0x0001 0x8D 0x0A) ∧
  decode hw [0x3A, 0x43, 0x12, 0x34, 0x65, 0x3B, 0x0A] = .ok (.status 0x03 0x1234 0x65 0x0A) ∧
  decode hw [0x7E, 0x00, 0x2A] = .ok (.statusMsg 0x3E 0x002A) ∧
  decode hw [0x3B, 0xC7, 0x00, 0x00, 0xC7, 0x3B, 0x0A] = .error .badStart ∧
  decode hw [0x3A, 0x07, 0x05, 0xDC, 0xDE, 0x3A, 0x0A] = .error .badEnd ∧
  decode hw [0x3A, 0xC7] = .error .noSuchFormat

/-! ### Message codec -/

/-- R100. -/
def Obligations.MsgEncodePacksIdThenPayload : Prop :=
  ∀ (type : TypeCode) (index : Index) (payload : Payload) (s : State),
    exec (.msgEncode type index payload) s =
      .next { s with
        result := .bytes [(type.setWidth 8 <<< 6) ||| (index.setWidth 8 &&& 0x3F),
          payload.extractLsb' 8 8, payload.extractLsb' 0 8]
        labels := [] }

/-- R101. -/
def Obligations.MsgDecodeSplitsIdAndPayload : Prop :=
  ∀ (b : Bytes3) (s : State),
    exec (.msgDecode b) s =
      .next { s with
        result := .decoded
          { type := (b.b0 >>> 6).setWidth 2
            index := (b.b0 &&& 0x3F).setWidth 6
            payload := (b.b1.setWidth 16 <<< 8) ||| b.b2.setWidth 16
            ok := isKnownIndex s.config ((b.b0 >>> 6).setWidth 2) ((b.b0 &&& 0x3F).setWidth 6) }
        labels := [] }

/-- R102: the enumeration is the one that the type selects; and its values and its count on this hardware: 62 of the 256
pairs. -/
def Obligations.IndexKnownSelectsTheEnumeration : Prop :=
  (∀ (type : TypeCode) (index : Index) (s : State),
    exec (.indexKnown type index) s =
      .next { s with
        result := .truth
          (if type = s.config.status then decide (index ∈ s.config.statusIndex)
          else decide (index ∈ s.config.paramIndex))
        labels := [] }) ∧
  (∀ (type : TypeCode) (index : Index),
    isKnownIndex hw type index =
      if type = 1 then
        decide (index ∈ ([0x00, 0x01, 0x02, 0x10, 0x11, 0x12, 0x13, 0x14, 0x15, 0x3E, 0x3F] : List Index))
      else decide (index.toNat ≤ 0x10)) ∧
  ((List.range 256).filter fun k => isKnownIndex hw (BitVec.ofNat 2 (k / 64)) (BitVec.ofNat 6 k)).length = 62

/-- R103. -/
def Obligations.PayloadUReadsUnsigned : Prop :=
  ∀ (p : Payload) (s : State),
    exec (.payloadU p) s = .next { s with result := .natural p.toNat, labels := [] } ∧
    p.toNat = 256 * (p.extractLsb' 8 8).toNat + (p.extractLsb' 0 8).toNat ∧ p.toNat ≤ 65535

/-- R104, two's complement: the spec marks the representation as general knowledge (G1); log entry 13. -/
def Obligations.PayloadSReadsTwosComplement : Prop :=
  ∀ (p : Payload) (s : State), ∃ n : Int,
    exec (.payloadS p) s = .next { s with result := .integer n, labels := [] } ∧
    (p.getLsbD 15 = false → n = p.toNat) ∧ (p.getLsbD 15 = true → n = (p.toNat : Int) - 65536) ∧
    -32768 ≤ n ∧ n ≤ 32767

/-- R105: the inverse of the two readings inside its range, refused outside it (decision D27; log entries 12
and 13). -/
def Obligations.PayloadFromIntInvertsTheReadings : Prop :=
  (∀ (n : Int) (s : State), -32768 ≤ n → n ≤ 32767 → ∃ v : Payload,
    exec (.payloadFromInt n true) s = .next { s with result := .payload v, labels := [] } ∧
    exec (.payloadS v) s = .next { s with result := .integer n, labels := [] }) ∧
  (∀ (n : Int) (s : State), 0 ≤ n → n ≤ 65535 → ∃ v : Payload,
    exec (.payloadFromInt n false) s = .next { s with result := .payload v, labels := [] } ∧ (v.toNat : Int) = n) ∧
  (∀ (n : Int) (s : State), n < -32768 ∨ 32767 < n →
    exec (.payloadFromInt n true) s = .refused (.payloadOutOfRange n true)) ∧
  (∀ (n : Int) (s : State), n < 0 ∨ 65535 < n →
    exec (.payloadFromInt n false) s = .refused (.payloadOutOfRange n false))

/-- The round trip of R106, over any configuration record, in both directions. -/
def Obligations.MessageRoundTrip : Prop :=
  ∀ c : WireConfig,
    (∀ (type : TypeCode) (index : Index) (payload : Payload),
      unpackMessage c (packMessage type index payload) = ⟨type, index, payload, isKnownIndex c type index⟩) ∧
    (∀ b : Bytes3,
      packMessage (unpackMessage c b).type (unpackMessage c b).index (unpackMessage c b).payload = b)

/-! ### Frame codec -/

/-- R120. -/
def Obligations.Xor8IsTheXorOfTheMessageBytes : Prop :=
  ∀ (b : Bytes3) (s : State),
    exec (.xor8 b) s = .next { s with result := .byte (b.b0 ^^^ b.b1 ^^^ b.b2), labels := [] }

/-- R121, with the markers and the terminator of the state's record and then those of this hardware. -/
def Obligations.FrameEncodeWrapsTheMessage : Prop :=
  ∀ (b : Bytes3) (s : State),
    exec (.frameEncode b) s =
      .next { s with
        result := .bytes [s.config.start, b.b0, b.b1, b.b2, b.b0 ^^^ b.b1 ^^^ b.b2, s.config.endMarker, s.config.term]
        labels := [] } ∧
    (s.config = hw →
      exec (.frameEncode b) s =
        .next { s with
          result := .bytes [0x3A, b.b0, b.b1, b.b2, b.b0 ^^^ b.b1 ^^^ b.b2, 0x3B, 0x0A]
          labels := [] })

/-- R122. -/
def Obligations.FrameDecodeUnpacksPositionally : Prop :=
  ∀ (w : Bytes7) (s : State),
    exec (.frameDecode w) s =
      .next { s with
        result := .frame
          { start := w.b0, messageBytes := ⟨w.b1, w.b2, w.b3⟩, checksum := w.b4, endMarker := w.b5
            terminator := w.b6, message := unpackMessage s.config ⟨w.b1, w.b2, w.b3⟩ }
        labels := [] }

/-- R123, with the constants of the state's record; each of the 16 combinations of flags occurs. -/
def Obligations.FrameStatusGivesFourIndependentFlags : Prop :=
  (∀ (w : Bytes7) (s : State),
    exec (.frameStatus w) s =
      .next { s with
        result := .flags
          { startOk := w.b0 == s.config.start, endOk := w.b5 == s.config.endMarker
            cksumOk := w.b4 == (w.b1 ^^^ w.b2 ^^^ w.b3)
            msgOk := isKnownIndex s.config ((w.b1 >>> 6).setWidth 2) ((w.b1 &&& 0x3F).setWidth 6) }
        labels := [] }) ∧
  (∀ f : FrameFlags, ∃ w : Bytes7, windowFlags hw w = f)

/-- R124: four conditions, with the constants of the state's record, and the terminator is not one of them. -/
def Obligations.FrameIsvalidHasFourConditions : Prop :=
  ∀ (w : Bytes7) (s : State), ∃ valid : Bool,
    exec (.frameIsvalid w) s = .next { s with result := .truth valid, labels := [] } ∧
    (valid = true ↔ w.b0 = s.config.start ∧ w.b5 = s.config.endMarker ∧ w.b4 = w.b1 ^^^ w.b2 ^^^ w.b3 ∧
      isKnownIndex s.config ((w.b1 >>> 6).setWidth 2) ((w.b1 &&& 0x3F).setWidth 6) = true) ∧
    ∀ t : Byte, windowValid s.config { w with b6 := t } = valid

/-- R125, over any configuration record. -/
def Obligations.EncodedFramesAreValidExactlyWhenKnown : Prop :=
  ∀ (c : WireConfig) (mb : Bytes3) (m : Message),
    windowFlags c (packFrame c mb) = ⟨true, true, true, isKnownIndex c (idType mb.b0) (idIndex mb.b0)⟩ ∧
    windowValid c (packFrame c mb) = isKnownIndex c (idType mb.b0) (idIndex mb.b0) ∧
    messageOf (unpackFrame c (frameOf c m)).message = m

/-- R126: a single flipped bit is seen in bytes 0 to 5 and not seen in byte 6. -/
def Obligations.SingleBitErrorsAreSeenButInTheTerminator : Prop :=
  ∀ (c : WireConfig) (mb : Bytes3) (k : Fin 7) (b : Fin 8),
    (k = 0 → (windowFlags c (withError (packFrame c mb) (bitError k b))).startOk = false) ∧
    (k = 5 → (windowFlags c (withError (packFrame c mb) (bitError k b))).endOk = false) ∧
    (1 ≤ k → k ≤ 4 → (windowFlags c (withError (packFrame c mb) (bitError k b))).cksumOk = false) ∧
    (k ≠ 6 → windowValid c (withError (packFrame c mb) (bitError k b)) = false) ∧
    (k = 6 → windowValid c (withError (packFrame c mb) (bitError k b)) = windowValid c (packFrame c mb))

/-- R127: exactly which errors turn a valid window into a valid window. -/
def Obligations.UndetectedErrorsAreTheEvenOnes : Prop :=
  ∀ (c : WireConfig) (w e : Bytes7), windowValid c w = true →
    (windowValid c (withError w e) = true ↔
      e.b0 = 0 ∧ e.b5 = 0 ∧ e.b1 ^^^ e.b2 ^^^ e.b3 ^^^ e.b4 = 0 ∧
      isKnownIndex c (idType (w.b1 ^^^ e.b1)) (idIndex (w.b1 ^^^ e.b1)) = true)

/-- The causes of R201 to R204: each is reported exactly where its condition fails, all of them together (R210),
and the synchronizer never meets `BAD_START`. On this hardware the id bytes that are not legal are those outside R67. -/
def Obligations.CausesNameTheFailingConditions : Prop :=
  (∀ (c : WireConfig) (w : Bytes7),
    (Cause.badStart ∈ causesOf (windowFlags c w) ↔ w.b0 ≠ c.start) ∧
    (Cause.badEnd ∈ causesOf (windowFlags c w) ↔ w.b5 ≠ c.endMarker) ∧
    (Cause.badChecksum ∈ causesOf (windowFlags c w) ↔ w.b4 ≠ w.b1 ^^^ w.b2 ^^^ w.b3) ∧
    (Cause.badMessage ∈ causesOf (windowFlags c w) ↔ isKnownIndex c (idType w.b1) (idIndex w.b1) = false)) ∧
  (∀ w : Bytes7, Cause.badMessage ∈ causesOf (windowFlags hw w) ↔ w.b1 ∉ legalIdBytes) ∧
  (∀ (s : State) (p : Nat) (w : Bytes7),
    s.window? = some (p, w) → Cause.badStart ∉ causesOf (windowFlags s.config w))

/-! ### Wire messages -/

/-- R185: the rows of a data type. A valid frame of the type at the scan cursor is emitted, whatever its terminator; on
transmit it is framed like any other; a window with an index its enumeration does not hold is not valid; and the
id bytes and the enumeration of this hardware. That a frame row stands for the window at the cursor is the model's
reading (log entry 9). -/
def Obligations.ResponseFramesAreEmittedAndSent : Prop :=
  (∀ (s : State) (index : Index) (row : Payload → Byte → Byte → Instr),
    (index, row) ∈ responseRows ∨ row = Instr.response index →
    isKnownIndex s.config s.config.response index = true →
    ∀ (payload : Payload) (terminator : Byte) (id hi lo cks : Byte) (p : Nat),
      id = (s.config.response.setWidth 8 <<< 6) ||| index.setWidth 8 →
      hi = payload.extractLsb' 8 8 → lo = payload.extractLsb' 0 8 → cks = id ^^^ hi ^^^ lo →
      encode s.config (row payload cks terminator) =
        some [s.config.start, id, hi, lo, cks, s.config.endMarker, terminator] ∧
      (s.link = .opened → s.phase = .scanning → firstIndex s.config.start s.rxbuf = some p →
        windowAt s.config s.rxbuf p = some ⟨s.config.start, id, hi, lo, cks, s.config.endMarker, terminator⟩ →
        (∀ cap, s.msgqCap = some cap → s.msgq.length < cap) →
        exec (row payload cks terminator) s =
          .next { s with
            msgq := s.msgq ++ [⟨s.config.response, index, payload⟩]
            emitted := s.emitted ++ [⟨s.config.response, index, payload⟩]
            rxbuf := s.rxbuf.drop (p + s.config.frameLen), consumed := s.consumed + (p + s.config.frameLen)
            result := .none, labels := [.emit ⟨s.config.response, index, payload⟩] }) ∧
      (s.link = .opened →
        exec (.txSend s.config.response index payload) s =
          .next { s with
            txstream := s.txstream ++ [s.config.start, id, hi, lo, cks, s.config.endMarker, s.config.term]
            result := .success, labels := [] })) ∧
  (∀ (c : WireConfig) (index : Index) (b2 b3 b4 b6 : Byte), isKnownIndex c c.response index = false →
    windowValid c ⟨c.start, (c.response.setWidth 8 <<< 6) ||| index.setWidth 8, b2, b3, b4, c.endMarker, b6⟩ = false) ∧
  (∀ index : Index,
    (hw.response.setWidth 8 <<< 6) ||| index.setWidth 8 = (0x00 ||| index.setWidth 8 : Byte) ∧
    (isKnownIndex hw hw.response index = true ↔ index.toNat ≤ 0x10))

/-- R186: as R185, with the status enumeration (log entry 9 for the row's meaning). -/
def Obligations.StatusFramesAreEmittedAndSent : Prop :=
  (∀ (s : State) (index : Index) (row : Payload → Byte → Byte → Instr),
    (index, row) ∈ statusRows ∨ row = Instr.status index →
    isKnownIndex s.config s.config.status index = true →
    ∀ (payload : Payload) (terminator : Byte) (id hi lo cks : Byte) (p : Nat),
      id = (s.config.status.setWidth 8 <<< 6) ||| index.setWidth 8 →
      hi = payload.extractLsb' 8 8 → lo = payload.extractLsb' 0 8 → cks = id ^^^ hi ^^^ lo →
      encode s.config (row payload cks terminator) =
        some [s.config.start, id, hi, lo, cks, s.config.endMarker, terminator] ∧
      (s.link = .opened → s.phase = .scanning → firstIndex s.config.start s.rxbuf = some p →
        windowAt s.config s.rxbuf p = some ⟨s.config.start, id, hi, lo, cks, s.config.endMarker, terminator⟩ →
        (∀ cap, s.msgqCap = some cap → s.msgq.length < cap) →
        exec (row payload cks terminator) s =
          .next { s with
            msgq := s.msgq ++ [⟨s.config.status, index, payload⟩]
            emitted := s.emitted ++ [⟨s.config.status, index, payload⟩]
            rxbuf := s.rxbuf.drop (p + s.config.frameLen), consumed := s.consumed + (p + s.config.frameLen)
            result := .none, labels := [.emit ⟨s.config.status, index, payload⟩] }) ∧
      (s.link = .opened →
        exec (.txSend s.config.status index payload) s =
          .next { s with
            txstream := s.txstream ++ [s.config.start, id, hi, lo, cks, s.config.endMarker, s.config.term]
            result := .success, labels := [] })) ∧
  (∀ (c : WireConfig) (index : Index) (b2 b3 b4 b6 : Byte), isKnownIndex c c.status index = false →
    windowValid c ⟨c.start, (c.status.setWidth 8 <<< 6) ||| index.setWidth 8, b2, b3, b4, c.endMarker, b6⟩ = false) ∧
  (∀ index : Index,
    (hw.status.setWidth 8 <<< 6) ||| index.setWidth 8 = (0x40 ||| index.setWidth 8 : Byte) ∧
    (isKnownIndex hw hw.status index = true ↔ index ∈ hw.statusIndex))

/-- R187: as R185 (log entry 9 for the row's meaning). -/
def Obligations.WriteRequestFramesAreEmittedAndSent : Prop :=
  (∀ (s : State) (index : Index) (row : Payload → Byte → Byte → Instr),
    (index, row) ∈ writeRequestRows ∨ row = Instr.writeRequest index →
    isKnownIndex s.config s.config.writeRequest index = true →
    ∀ (payload : Payload) (terminator : Byte) (id hi lo cks : Byte) (p : Nat),
      id = (s.config.writeRequest.setWidth 8 <<< 6) ||| index.setWidth 8 →
      hi = payload.extractLsb' 8 8 → lo = payload.extractLsb' 0 8 → cks = id ^^^ hi ^^^ lo →
      encode s.config (row payload cks terminator) =
        some [s.config.start, id, hi, lo, cks, s.config.endMarker, terminator] ∧
      (s.link = .opened → s.phase = .scanning → firstIndex s.config.start s.rxbuf = some p →
        windowAt s.config s.rxbuf p = some ⟨s.config.start, id, hi, lo, cks, s.config.endMarker, terminator⟩ →
        (∀ cap, s.msgqCap = some cap → s.msgq.length < cap) →
        exec (row payload cks terminator) s =
          .next { s with
            msgq := s.msgq ++ [⟨s.config.writeRequest, index, payload⟩]
            emitted := s.emitted ++ [⟨s.config.writeRequest, index, payload⟩]
            rxbuf := s.rxbuf.drop (p + s.config.frameLen), consumed := s.consumed + (p + s.config.frameLen)
            result := .none, labels := [.emit ⟨s.config.writeRequest, index, payload⟩] }) ∧
      (s.link = .opened →
        exec (.txSend s.config.writeRequest index payload) s =
          .next { s with
            txstream := s.txstream ++ [s.config.start, id, hi, lo, cks, s.config.endMarker, s.config.term]
            result := .success, labels := [] })) ∧
  (∀ (c : WireConfig) (index : Index) (b2 b3 b4 b6 : Byte), isKnownIndex c c.writeRequest index = false →
    windowValid c ⟨c.start, (c.writeRequest.setWidth 8 <<< 6) ||| index.setWidth 8, b2, b3, b4, c.endMarker, b6⟩ = false) ∧
  (∀ index : Index,
    (hw.writeRequest.setWidth 8 <<< 6) ||| index.setWidth 8 = (0x80 ||| index.setWidth 8 : Byte) ∧
    (isKnownIndex hw hw.writeRequest index = true ↔ index.toNat ≤ 0x10))

/-- R188: as R185 (log entry 9 for the row's meaning). -/
def Obligations.ReadRequestFramesAreEmittedAndSent : Prop :=
  (∀ (s : State) (index : Index) (row : Payload → Byte → Byte → Instr),
    (index, row) ∈ readRequestRows ∨ row = Instr.readRequest index →
    isKnownIndex s.config s.config.readRequest index = true →
    ∀ (payload : Payload) (terminator : Byte) (id hi lo cks : Byte) (p : Nat),
      id = (s.config.readRequest.setWidth 8 <<< 6) ||| index.setWidth 8 →
      hi = payload.extractLsb' 8 8 → lo = payload.extractLsb' 0 8 → cks = id ^^^ hi ^^^ lo →
      encode s.config (row payload cks terminator) =
        some [s.config.start, id, hi, lo, cks, s.config.endMarker, terminator] ∧
      (s.link = .opened → s.phase = .scanning → firstIndex s.config.start s.rxbuf = some p →
        windowAt s.config s.rxbuf p = some ⟨s.config.start, id, hi, lo, cks, s.config.endMarker, terminator⟩ →
        (∀ cap, s.msgqCap = some cap → s.msgq.length < cap) →
        exec (row payload cks terminator) s =
          .next { s with
            msgq := s.msgq ++ [⟨s.config.readRequest, index, payload⟩]
            emitted := s.emitted ++ [⟨s.config.readRequest, index, payload⟩]
            rxbuf := s.rxbuf.drop (p + s.config.frameLen), consumed := s.consumed + (p + s.config.frameLen)
            result := .none, labels := [.emit ⟨s.config.readRequest, index, payload⟩] }) ∧
      (s.link = .opened →
        exec (.txSend s.config.readRequest index payload) s =
          .next { s with
            txstream := s.txstream ++ [s.config.start, id, hi, lo, cks, s.config.endMarker, s.config.term]
            result := .success, labels := [] })) ∧
  (∀ (c : WireConfig) (index : Index) (b2 b3 b4 b6 : Byte), isKnownIndex c c.readRequest index = false →
    windowValid c ⟨c.start, (c.readRequest.setWidth 8 <<< 6) ||| index.setWidth 8, b2, b3, b4, c.endMarker, b6⟩ = false) ∧
  (∀ index : Index,
    (hw.readRequest.setWidth 8 <<< 6) ||| index.setWidth 8 = (0xC0 ||| index.setWidth 8 : Byte) ∧
    (isKnownIndex hw hw.readRequest index = true ↔ index.toNat ≤ 0x10))

/-- A frame row whose window stands at the scan cursor and is not valid is rejected (R147, R211): the marker and
the bytes in front of it go, all failing flags are in the one label, and the message queue is left alone. That a
frame row stands for the window at the cursor is the model's reading (log entry 9). -/
def Obligations.InvalidFrameRowsAreRejected : Prop :=
  ∀ (i : Instr) (f : FrameFields) (s : State) (p : Nat),
    frameFields? s.config i = some f → s.link = .opened → s.phase = .scanning →
    firstIndex s.config.start s.rxbuf = some p → windowAt s.config s.rxbuf p = some (rowWindow s.config f) →
    windowValid s.config (rowWindow s.config f) = false →
    exec i s =
      .next { s with
        rxbuf := s.rxbuf.drop (p + 1), consumed := s.consumed + (p + 1), result := .none
        labels := [.rejectBadFrame true (f.checksum == (f.id ^^^ payloadHi f.payload ^^^ payloadLo f.payload))
          (isKnownIndex s.config (idType f.id) (idIndex f.id))] }

/-- The four bare message rows decode their packed message (R101), with the mark of their enumeration; that this is their
meaning is the model's choice (log entry 10). -/
def Obligations.MessageRowsDecode : Prop :=
  ∀ (index : Index) (payload : Payload) (s : State),
    exec (.responseMsg index payload) s =
      .next { s with
        result := .decoded ⟨s.config.response, index, payload, isKnownIndex s.config s.config.response index⟩
        labels := [] } ∧
    exec (.statusMsg index payload) s =
      .next { s with
        result := .decoded ⟨s.config.status, index, payload, isKnownIndex s.config s.config.status index⟩
        labels := [] } ∧
    exec (.writeRequestMsg index payload) s =
      .next { s with
        result := .decoded ⟨s.config.writeRequest, index, payload, isKnownIndex s.config s.config.writeRequest index⟩
        labels := [] } ∧
    exec (.readRequestMsg index payload) s =
      .next { s with
        result := .decoded ⟨s.config.readRequest, index, payload, isKnownIndex s.config s.config.readRequest index⟩
        labels := [] }

/-! ### Synchronizer -/

/-- R141. -/
def Obligations.RxAppendAppendsTheChunk : Prop :=
  ∀ (chunk : List Byte) (s : State), s.link = .opened → s.phase = .refill →
    exec (.rxAppend chunk) s =
      .next { s with
        rxbuf := s.rxbuf ++ chunk, rxhist := s.rxhist ++ chunk, phase := .scanning
        result := .none, labels := [] }

/-- R142: the tests in their order, each with the outcome row it leads to; exactly one applies. -/
def Obligations.RxScanTakesTheOneOutcomeThatApplies : Prop :=
  ∀ s : State, s.config.wf = true → s.link = .opened → s.phase = .scanning →
    if s.rxbuf.length < s.config.frameLen then exec .rxScan s = exec .rxScanShort s
    else
      match firstIndex s.config.start s.rxbuf with
      | none => exec .rxScan s = exec .rxScanDiscard s
      | some p =>
        if s.rxbuf.length - p < s.config.frameLen then exec .rxScan s = exec .rxScanWait s
        else ∃ w, windowAt s.config s.rxbuf p = some w ∧
          if windowValid s.config w then exec .rxScan s = exec .rxScanEmit s
          else exec .rxScan s = exec .rxScanResync s

/-- R143. -/
def Obligations.RxScanShortEndsThePass : Prop :=
  ∀ s : State, s.link = .opened → s.phase = .scanning → s.rxbuf.length < s.config.frameLen →
    exec .rxScanShort s = .next { s with phase := .refill, result := .none, labels := [] } ∧
    exec .rxScan s = exec .rxScanShort s

/-- R144. -/
def Obligations.RxScanDiscardEmptiesTheBuffer : Prop :=
  ∀ s : State, s.link = .opened → s.phase = .scanning → s.config.frameLen ≤ s.rxbuf.length →
    s.config.start ∉ s.rxbuf →
    exec .rxScanDiscard s =
      .next { s with
        consumed := s.consumed + s.rxbuf.length, rxbuf := [], phase := .refill
        result := .none, labels := [.discardNoMarker s.rxbuf.length] } ∧
    exec .rxScan s = exec .rxScanDiscard s

/-- R145. -/
def Obligations.RxScanWaitKeepsTheBuffer : Prop :=
  ∀ (s : State) (p : Nat), s.link = .opened → s.phase = .scanning → s.config.frameLen ≤ s.rxbuf.length →
    firstIndex s.config.start s.rxbuf = some p → s.rxbuf.length - p < s.config.frameLen →
    exec .rxScanWait s = .next { s with phase := .refill, result := .none, labels := [] } ∧
    exec .rxScan s = exec .rxScanWait s

/-- R146. -/
def Obligations.RxScanEmitTakesTheWindow : Prop :=
  ∀ (s : State) (p : Nat) (w : Bytes7) (m : Message), s.link = .opened → s.phase = .scanning →
    firstIndex s.config.start s.rxbuf = some p → windowAt s.config s.rxbuf p = some w → windowValid s.config w = true →
    (∀ cap, s.msgqCap = some cap → s.msgq.length < cap) →
    m = ⟨(w.b1 >>> 6).setWidth 2, (w.b1 &&& 0x3F).setWidth 6, (w.b2.setWidth 16 <<< 8) ||| w.b3.setWidth 16⟩ →
    exec .rxScanEmit s =
      .next { s with
        msgq := s.msgq ++ [m], emitted := s.emitted ++ [m]
        rxbuf := s.rxbuf.drop (p + s.config.frameLen), consumed := s.consumed + p + s.config.frameLen
        result := .none, labels := [.emit m] } ∧
    exec .rxScan s = exec .rxScanEmit s

/-- R147. -/
def Obligations.RxScanResyncDropsThroughTheMarker : Prop :=
  ∀ (s : State) (p : Nat) (w : Bytes7), s.link = .opened → s.phase = .scanning →
    firstIndex s.config.start s.rxbuf = some p → windowAt s.config s.rxbuf p = some w → windowValid s.config w = false →
    exec .rxScanResync s =
      .next { s with
        rxbuf := s.rxbuf.drop (p + 1), consumed := s.consumed + p + 1, result := .none
        labels := [.rejectBadFrame (w.b5 == s.config.endMarker) (w.b4 == (w.b1 ^^^ w.b2 ^^^ w.b3))
          (isKnownIndex s.config ((w.b1 >>> 6).setWidth 2) ((w.b1 &&& 0x3F).setWidth 6))] } ∧
    exec .rxScan s = exec .rxScanResync s

/-- R150: a full queue holds an EMIT, and the close with it; no other outcome of a scan step and no scan step with an
unbounded queue is ever held; one `MSGQ_POP` lifts the hold. How a hold shows is the model's choice (log entry 3). -/
def Obligations.FullQueueHoldsTheEmit : Prop :=
  (∀ (s : State) (p : Nat) (w : Bytes7) (cap : Nat), 0 < cap → s.link = .opened → s.phase = .scanning →
    firstIndex s.config.start s.rxbuf = some p → windowAt s.config s.rxbuf p = some w →
    windowValid s.config w = true → s.msgqCap = some cap → s.msgq.length = cap →
    exec .rxScan s = .next { s with result := .hold, labels := [] } ∧
    exec .linkClose s = .next { s with result := .hold, labels := [] } ∧
    ∃ t, exec .msgqPop s = .next t ∧ enabled .rxScan t = true) ∧
  (∀ s : State, s.link = .opened → s.phase = .scanning →
    s.msgqCap = none ∨ (∀ p w, scan s.config s.rxbuf ≠ .emit p w) →
    ∃ t, exec .rxScan s = .next t ∧ t.result = .none)

/-- R148, R150: at any capacity of the queue, a refill and the enabled scan steps behind it, with the bound on their
number and their labels in order; it ends the pass, or stands before an EMIT that a full queue holds. With an unbounded
queue it ends the pass. That the composite is one step, and that a held one stops there, is the model's choice (log
entries 3, 16). -/
def Obligations.RxPassIsARefillAndTheScansThatEndIt : Prop :=
  ∀ (chunk : List Byte) (s : State), s.config.wf = true → s.link = .opened → s.phase = .refill →
    ∃ k a t, exec (.rxAppend chunk) s = .next a ∧ exec (.rxPass chunk) s = .next t ∧
      k ≤ max 1 ((s.rxbuf ++ chunk).length - 5) ∧
      silent t = silent (scans k a) ∧
      (∀ j < k, (scans j a).phase = .scanning ∧ enabled .rxScan (scans j a) = true) ∧
      t.labels = (List.range k).flatMap (fun j => (scans (j + 1) a).labels) ∧
      ((t.phase = .refill ∧ 1 ≤ k ∧ t.result = .none) ∨
        (t.phase = .scanning ∧ t.result = .hold ∧ enabled .rxScan t = false ∧
          ∃ cap, s.msgqCap = some cap ∧ cap ≤ t.msgq.length ∧ ∃ p w, scan t.config t.rxbuf = .emit p w)) ∧
      (s.msgqCap = none → t.phase = .refill)

/-- R149: whatever the link and the phase, the oldest message is taken; on an empty queue the step holds. How a hold
shows is the model's choice (log entry 3). -/
def Obligations.MsgqPopTakesTheOldestMessage : Prop :=
  (∀ (s : State) (m : Message) (ms : List Message), s.msgq = m :: ms →
    exec .msgqPop s = .next { s with msgq := ms, result := .message m, labels := [] }) ∧
  (∀ s : State, s.msgq = [] → exec .msgqPop s = .next { s with result := .hold, labels := [] })

/-- R151: in every reachable state that stands before a refill, what was emitted since the link was opened is what
the greedy scanner finds in what was received. -/
def Obligations.EmittedIsTheGreedyScanOfTheStream : Prop :=
  ∀ s : State, Reachable s → s.phase = .refill → s.emitted = greedy s.config s.rxhist 0 []

/-- The consequences R151 draws for the scanner itself: more bytes only add messages, so none is ever withdrawn. -/
def Obligations.MoreBytesOnlyAddMessages : Prop :=
  ∀ (c : WireConfig) (h h' : List Byte), c.wf = true → ∃ ms, greedy c (h ++ h') 0 [] = greedy c h 0 [] ++ ms

/-- R152: the resynchronisation property where every window at a start marker of the corrupted frame is invalid,
its sufficient condition, and the stream for which it fails on this hardware (conflict C6). -/
def Obligations.ResyncAfterACorruptedFrame : Prop :=
  (∀ (c : WireConfig) (bad good : Bytes7), c.wf = true → windowValid c bad = false → windowValid c good = true →
    (∀ k < 7, (bytes7List bad)[k]? = some c.start →
      ∃ w, windowAt c (bytes7List bad ++ bytes7List good) k = some w ∧ windowValid c w = false) →
    greedy c (bytes7List bad ++ bytes7List good) 0 [] = [messageOf (unpackMessage c (windowMessage good))]) ∧
  (∀ (c : WireConfig) (bad good : Bytes7), c.wf = true → windowValid c bad = false → windowValid c good = true →
    c.start ∉ (bytes7List bad).drop 1 →
    greedy c (bytes7List bad ++ bytes7List good) 0 [] = [messageOf (unpackMessage c (windowMessage good))]) ∧
  (∀ good : Bytes7, windowValid hw good = true →
    greedy hw ([0x00, 0x3A, 0x00, 0x00, 0x00, 0x00, 0x3B] ++ bytes7List good) 0 [] = [⟨0, 0, 0⟩])

/-- R153: with refills of at most `L` bytes the buffer holds at most `L + 11` bytes before a refill and `2L + 11`
at any time. -/
def Obligations.BufferOccupancyIsBounded : Prop :=
  ∀ (L : Nat) (s : State), ReachableBy (refillAtMost L) s →
    (s.phase = .refill → s.rxbuf.length ≤ L + 11) ∧ s.rxbuf.length ≤ 2 * L + 11

/-- R154: dropping one byte at a time in front of a rejected marker meets the same marker and the same window
until the marker itself goes, and ends in the same buffer. -/
def Obligations.OtherReadingOfTheResyncMeetsTheSameWindow : Prop :=
  ∀ (c : WireConfig) (buf : List Byte) (p : Nat) (w : Bytes7), scan c buf = .resync p w →
    (∀ k ≤ p, scan c ((List.drop 1)^[k] buf) = .resync (p - k) w) ∧
    (List.drop 1)^[p + 1] buf = buf.drop (p + 1)

/-! ### Transmit path, link, reset -/

/-- R170, with the constants of the state's record and then those of this hardware. -/
def Obligations.TxSendAppendsOneFrame : Prop :=
  ∀ (type : TypeCode) (index : Index) (payload : Payload) (id hi lo : Byte) (s : State),
    s.link = .opened → id = (type.setWidth 8 <<< 6) ||| (index.setWidth 8 &&& 0x3F) →
    hi = payload.extractLsb' 8 8 → lo = payload.extractLsb' 0 8 →
    exec (.txSend type index payload) s =
      .next { s with
        txstream := s.txstream ++ [s.config.start, id, hi, lo, id ^^^ hi ^^^ lo, s.config.endMarker, s.config.term]
        result := .success, labels := [] } ∧
    (s.config = hw →
      exec (.txSend type index payload) s =
        .next { s with
          txstream := s.txstream ++ [0x3A, id, hi, lo, id ^^^ hi ^^^ lo, 0x3B, 0x0A]
          result := .success, labels := [] })

/-- R171, by the operation and by its own row. -/
def Obligations.TxSendOnAClosedLinkFails : Prop :=
  ∀ (type : TypeCode) (index : Index) (payload : Payload) (s : State), s.link = .closed →
    exec (.txSend type index payload) s = .next { s with result := .failure, labels := [.failLinkClosed] } ∧
    exec (.txSendClosed type index payload) s = .next { s with result := .failure, labels := [.failLinkClosed] }

/-- R172, its three cases. -/
def Obligations.LinkOpenStartsAnEmptyReceiver : Prop :=
  ∀ (answer : Bool) (s : State),
    (s.link = .opened →
      exec (.linkOpen answer) s = .next { s with result := .failure, labels := [.failLinkAlreadyOpen] }) ∧
    (s.link = .closed → answer = false →
      exec (.linkOpen answer) s = .next { s with result := .failure, labels := [.failOpenRefused] }) ∧
    (s.link = .closed → answer = true →
      exec (.linkOpen answer) s =
        .next { s with
          link := .opened, phase := .refill, rxbuf := [], rxhist := [], consumed := 0, emitted := []
          result := .success, labels := [] })

/-- R173, its three cases; inside a pass it holds. How a hold shows is the model's choice (log entry 3). -/
def Obligations.LinkCloseDropsTheBuffer : Prop :=
  ∀ s : State,
    (s.link = .closed → exec .linkClose s = .next { s with result := .failure, labels := [.failLinkClosed] }) ∧
    (s.link = .opened → s.phase = .refill →
      exec .linkClose s = .next { s with link := .closed, rxbuf := [], result := .success, labels := [] }) ∧
    (s.link = .opened → s.phase = .scanning →
      exec .linkClose s = .next { s with result := .hold, labels := [] })

/-- R174 for the eight fields of R20. That the inputs of the environment stay is the model's choice (log entry 14), and so
is that the parameters, which R231 says are not touched, stand in the state (log entries 5, 19). -/
def Obligations.ResetWritesAllOfTheState : Prop :=
  ∀ s : State,
    exec .reset s =
      .next { s with
        link := .closed, phase := .refill, rxbuf := [], msgq := [], txstream := []
        rxhist := [], consumed := 0, emitted := [], result := .none, labels := [] }

/-- R231, the default of the open capacity (R9), and the values of the wire constants (R4 to R7, which R8 calls
unaudited: log entry 15). -/
def Obligations.StateAfterReset : Prop :=
  State.reset.link = .closed ∧ State.reset.phase = .refill ∧ State.reset.rxbuf = [] ∧ State.reset.msgq = [] ∧
  State.reset.txstream = [] ∧ State.reset.rxhist = [] ∧ State.reset.consumed = 0 ∧ State.reset.emitted = [] ∧
  State.reset.msgqCap = none ∧
  State.reset.config.start = 0x3A ∧ State.reset.config.endMarker = 0x3B ∧ State.reset.config.term = 0x0A ∧
  State.reset.config.response = 0 ∧ State.reset.config.status = 1 ∧ State.reset.config.writeRequest = 2 ∧
  State.reset.config.readRequest = 3 ∧ State.reset.config.msgLen = 3 ∧ State.reset.config.frameLen = 7 ∧
  (∀ index : Index, index ∈ State.reset.config.paramIndex ↔ index.toNat ≤ 0x10) ∧
  State.reset.config.statusIndex = [0x00, 0x01, 0x02, 0x10, 0x11, 0x12, 0x13, 0x14, 0x15, 0x3E, 0x3F]

/-! ### The whole machine -/

/-- The invariants of R33 hold after reset. -/
def Obligations.ResetSatisfiesTheInvariants : Prop := BlockInv State.reset

/-- The invariants of R33 are kept by every step, from every state that has them. -/
def Obligations.StepKeepsTheInvariants : Prop :=
  ∀ s t : State, BlockInv s → step s = .next t → BlockInv t

/-- R20, the column "Written by": each field is changed by no other instruction than those it names. The
parameters and the inputs, which are not the block's state, are changed by none. -/
def Obligations.FieldsHaveOnlyTheirWriters : Prop :=
  ∀ (i : Instr) (s t : State), exec i s = .next t →
    (t.link ≠ s.link → i = .reset ∨ i = .linkOpen true ∨ i = .linkClose) ∧
    (t.phase ≠ s.phase → isRefill i = true ∨ isScan i = true ∨ i = .reset ∨ i = .linkOpen true) ∧
    (t.rxbuf ≠ s.rxbuf →
      isRefill i = true ∨ isScan i = true ∨ i = .reset ∨ i = .linkOpen true ∨ i = .linkClose) ∧
    (t.msgq ≠ s.msgq → isScan i = true ∨ i = .msgqPop ∨ i = .reset) ∧
    (t.txstream ≠ s.txstream → (∃ type index payload, i = .txSend type index payload) ∨ i = .reset) ∧
    (t.rxhist ≠ s.rxhist → isRefill i = true ∨ i = .reset ∨ i = .linkOpen true) ∧
    (t.consumed ≠ s.consumed → isScan i = true ∨ i = .reset ∨ i = .linkOpen true) ∧
    (t.emitted ≠ s.emitted → isScan i = true ∨ i = .reset ∨ i = .linkOpen true) ∧
    t.msgqCap = s.msgqCap ∧ t.config = s.config ∧ t.inbox = s.inbox

/-- R24, R50: the queue is first-in first-out. Messages enter at the tail, each in the history of the queue's input
too, and leave one at a time at the head; only `RESET` does otherwise. -/
def Obligations.QueueIsFirstInFirstOut : Prop :=
  ∀ (i : Instr) (s t : State), exec i s = .next t →
    (∃ ms, t.msgq = s.msgq ++ ms ∧ (t.emitted = s.emitted ++ ms ∨ (i = .linkOpen true ∧ ms = []))) ∨
    (i = .msgqPop ∧ ∃ m, s.msgq = m :: t.msgq ∧ t.result = .message m ∧ t.emitted = s.emitted) ∨
    i = .reset

/-- R26, R214: no operation's result depends on a ghost field or on an output of an earlier step. -/
def Obligations.GhostsAndOutputsAreNotRead : Prop :=
  ∀ (i : Instr) (s s' : State), observable s = observable s' →
    match exec i s, exec i s' with
    | .next t, .next t' => observable t = observable t' ∧ t.result = t'.result ∧ t.labels = t'.labels
    | .refused r, .refused r' => r = r'
    | _, _ => False

/-- A step that is not enabled changes nothing but the outputs and says that it holds; an enabled one never says so,
but for `RX_PASS` with a bounded queue. How a hold shows is the model's choice (log entry 3). -/
def Obligations.HoldsExactlyWhereNotEnabled : Prop :=
  ∀ (i : Instr) (s : State),
    (enabled i s = false → exec i s = .next { s with result := .hold, labels := [] }) ∧
    (enabled i s = true → (∀ chunk, i = .rxPass chunk → s.msgqCap = none ∧ s.config.wf = true) →
      ∀ t, exec i s = .next t → t.result ≠ .hold)

/-- R216: which operations each mode enables. -/
def Obligations.ModesEnableTheirOperations : Prop :=
  ∀ (s : State) (chunk : List Byte) (answer : Bool) (type : TypeCode) (index : Index) (payload : Payload),
    (s.link = .closed →
      enabled (.rxAppend chunk) s = false ∧ enabled .rxScan s = false ∧ enabled .linkClose s = true ∧
      enabled (.txSendClosed type index payload) s = true) ∧
    (s.link = .opened →
      (enabled (.rxAppend chunk) s = true ↔ s.phase = .refill) ∧
      (enabled .rxScan s = true → s.phase = .scanning) ∧
      (s.phase = .scanning → s.msgqCap = none → enabled .rxScan s = true) ∧
      (enabled .linkClose s = true ↔ s.phase = .refill)) ∧
    (enabled .msgqPop s = true ↔ s.msgq ≠ []) ∧
    enabled (.linkOpen answer) s = true ∧ enabled (.txSend type index payload) s = true ∧ enabled .reset s = true

/-- R200: nothing stops the block. Every instruction answers a next state in every state, but for
`PAYLOAD_FROM_INT` of a number outside its range (U6). An operation that is not enabled counts as a next state here: R11
says that it is not taken, and that it answers the state with the result `hold` is the model's choice (log entry 3). -/
def Obligations.OnlyAnOutOfRangeConversionStops : Prop :=
  ∀ (i : Instr) (s : State),
    (∃ t, exec i s = .next t) ∨
    (∃ n signed, i = .payloadFromInt n signed ∧ inReading n signed = false ∧
      exec i s = .refused (.payloadOutOfRange n signed))

/-- A step runs the decoded instruction: with no enabled command waiting, the window at the scan cursor; a command
at the head of the inbox, taken out of it. A `RESET` is taken wherever it stands, behind commands of its own agent that
hold too, when no command in front of it is (R174 "Enabled: always", R239). The order of the agents is the model's (log
entries 1, 3, 4). -/
def Obligations.StepRunsTheDecodedInstruction : Prop :=
  (∀ (s : State) (p : Nat) (w : Bytes7) (i : Instr),
    pick s [] s.inbox = none → s.window? = some (p, w) → decodeFrame s.config w = .ok i → step s = exec i s) ∧
  (∀ (s : State) (a : Agent) (b : Bytes3) (rest : List Command) (i : Instr),
    s.inbox = ⟨a, .packed b⟩ :: rest → decode s.config (bytes3List b) = .ok i →
    step s = exec i { s with inbox := rest }) ∧
  (∀ (s : State) (a : Agent) (i : Instr) (rest : List Command),
    s.inbox = ⟨a, .call i⟩ :: rest → enabled i s = true → step s = exec i { s with inbox := rest }) ∧
  (∀ (s : State) (a : Agent) (front rest : List Command),
    s.inbox = front ++ ⟨a, .call .reset⟩ :: rest → pick s [] front = none →
    step s = exec .reset { s with inbox := front ++ rest }) ∧
  (∀ s : State, pick s [] s.inbox = none → s.inPass = false →
    ∃ r, step s = .next { s with result := r, labels := [] })

/-- Fetching the window, decoding it and running its row is `RX_SCAN`: the synchronizer's own step, in every state
in which no enabled command waits. -/
def Obligations.FetchDecodeRunIsRxScan : Prop :=
  ∀ s : State, s.config.wf = true → pick s [] s.inbox = none → s.link = .opened → s.phase = .scanning →
    step s = exec .rxScan s
end

