-- ==== Sys2Proof/Laws/Codec.lean ====
section
/-! SUPPORT. What the codec's operations do to bits: splitting undoes assembling, and the converse
(30_encoding.md section 2, 40_message_codec.md, 41_frame_codec.md). -/

namespace Sys2Proof.Machine

open Sys2Proof.Config

@[simp] theorem idType_idByte (t : TypeCode) (i : Index) : idType (idByte t i) = t := by
  revert t i; decide

@[simp] theorem idIndex_idByte (t : TypeCode) (i : Index) : idIndex (idByte t i) = i := by
  revert t i; decide

@[simp] theorem idByte_split (id : Byte) : idByte (idType id) (idIndex id) = id := by
  revert id; decide

@[simp] theorem payloadOf_split (p : Payload) : payloadOf (payloadHi p) (payloadLo p) = p := by
  ext i hi
  simp only [payloadOf, payloadHi, payloadLo, BitVec.getElem_or, BitVec.getElem_shiftLeft, BitVec.getElem_setWidth,
    BitVec.getLsbD_extractLsb']
  by_cases h : i < 8
  · simp [h, BitVec.getLsbD_eq_getElem hi]
  · have h8 : i - 8 < 8 := by omega
    have e : 8 + (i - 8) = i := by omega
    simp [h, h8, e, BitVec.getLsbD_eq_getElem hi]

@[simp] theorem payloadHi_payloadOf (hi lo : Byte) : payloadHi (payloadOf hi lo) = hi := by
  ext i h
  simp only [payloadOf, payloadHi, BitVec.getElem_extractLsb', BitVec.getLsbD_or, BitVec.getLsbD_shiftLeft,
    BitVec.getLsbD_setWidth]
  have h1 : ¬ (8 + i < 8) := by omega
  have h2 : 8 + i < 16 := by omega
  have h3 : 8 + i - 8 = i := by omega
  simp [h2, h3, BitVec.getLsbD_eq_getElem h]
  omega

@[simp] theorem payloadLo_payloadOf (hi lo : Byte) : payloadLo (payloadOf hi lo) = lo := by
  ext i h
  have h2 : i < 16 := by omega
  simp [payloadOf, payloadLo, h, h2]

/-- The running XOR is the XOR of the three bytes (R120). -/
theorem checksum8_eq (b : Bytes3) : checksum8 b = b.b0 ^^^ b.b1 ^^^ b.b2 := by
  simp [checksum8]

/-- Validity, condition by condition (R124). -/
theorem windowValid_iff (c : WireConfig) (w : Bytes7) :
    windowValid c w = true ↔ w.b0 = c.start ∧ w.b5 = c.endMarker ∧ w.b4 = w.b1 ^^^ w.b2 ^^^ w.b3 ∧
      isKnownIndex c (idType w.b1) (idIndex w.b1) = true := by
  simp [windowValid, allOk, windowFlags, unpackFrame, unpackMessage, windowMessage, checksum8_eq, and_assoc]

/-- What `WireConfig.wf` gives (R8). -/
theorem wf_iff {c : WireConfig} : c.wf = true ↔
    [c.response, c.status, c.writeRequest, c.readRequest].Nodup ∧ c.msgLen = 3 ∧ c.frameLen = 7 := by
  simp only [WireConfig.wf, Bool.and_eq_true, decide_eq_true_eq, beq_iff_eq]
  constructor
  · rintro ⟨⟨h1, h2⟩, h3⟩; exact ⟨h1, h2, by omega⟩
  · rintro ⟨h1, h2, h3⟩; exact ⟨⟨h1, h2⟩, by omega⟩

theorem frameLen_eq {c : WireConfig} (h : c.wf = true) : c.frameLen = 7 := (wf_iff.1 h).2.2

theorem hw_wf : hw.wf = true := by decide

/-- With distinct codes every type is read back from its code (R5). -/
theorem typeOf_code {c : WireConfig} (h : c.wf = true) (t : MessageType) : c.typeOf (c.code t) = t := by
  have hn := (wf_iff.1 h).1
  simp only [List.nodup_cons, List.mem_cons, List.not_mem_nil, or_false, not_or] at hn
  obtain ⟨⟨h1, h2, h3⟩, ⟨h4, h5⟩, h6, -⟩ := hn
  cases t <;> simp only [WireConfig.code, WireConfig.typeOf]
  · simp
  · simp [Ne.symm h1]
  · simp [Ne.symm h2, Ne.symm h4]
  · simp [Ne.symm h3, Ne.symm h5, Ne.symm h6]

/-- Four distinct codes are all the 2-bit values (R8). -/
theorem four_codes : ∀ a b d e x : TypeCode, [a, b, d, e].Nodup → x ≠ a → x ≠ b → x ≠ d → e = x := by decide

/-- With distinct codes every 2-bit value is the code of its type (R5). -/
theorem code_typeOf {c : WireConfig} (h : c.wf = true) (t : TypeCode) : c.code (c.typeOf t) = t := by
  unfold WireConfig.typeOf
  split_ifs with h0 h1 h2
  · exact h0.symm
  · exact h1.symm
  · exact h2.symm
  · exact four_codes _ _ _ _ _ (wf_iff.1 h).1 h0 h1 h2

@[simp] theorem windowFields_rowWindow (c : WireConfig) (f : FrameFields) : windowFields (rowWindow c f) = f := by
  simp [windowFields, rowWindow]

theorem rowWindow_windowFields {c : WireConfig} (w : Bytes7) (h0 : w.b0 = c.start) (h5 : w.b5 = c.endMarker) :
    rowWindow c (windowFields w) = w := by
  simp [windowFields, rowWindow, ← h0, ← h5]

/-- The row of a type and an index stands for that type and index (R66, R67). -/
theorem frameRow_responseRow (i : Index) (p : Payload) (k t : Byte) :
    frameRow? (responseRow i p k t) = some ⟨.response, i, p, k, t⟩ := by
  unfold responseRow; split <;> rfl

theorem frameRow_statusRow (i : Index) (p : Payload) (k t : Byte) :
    frameRow? (statusRow i p k t) = some ⟨.status, i, p, k, t⟩ := by
  unfold statusRow; split <;> rfl

theorem frameRow_writeRequestRow (i : Index) (p : Payload) (k t : Byte) :
    frameRow? (writeRequestRow i p k t) = some ⟨.writeRequest, i, p, k, t⟩ := by
  unfold writeRequestRow; split <;> rfl

theorem frameRow_readRequestRow (i : Index) (p : Payload) (k t : Byte) :
    frameRow? (readRequestRow i p k t) = some ⟨.readRequest, i, p, k, t⟩ := by
  unfold readRequestRow; split <;> rfl

/-- The row of an id byte stands for the type and the index of that byte (R63). -/
theorem frameRow_idRow (c : WireConfig) (f : FrameFields) :
    frameRow? (idRow c f) = some ⟨c.typeOf (idType f.id), idIndex f.id, f.payload, f.checksum, f.terminator⟩ := by
  unfold idRow
  split <;> rename_i h <;>
    simp [h, frameRow_responseRow, frameRow_statusRow, frameRow_writeRequestRow, frameRow_readRequestRow]

/-- The row of an id byte holds the fields it was given. -/
theorem frameFields_idRow {c : WireConfig} (h : c.wf = true) (f : FrameFields) :
    frameFields? c (idRow c f) = some f := by
  simp [frameFields?, frameRow_idRow, rowFields, code_typeOf h]

/-- What the frame decoder answers: the row of the window's fields, where both markers stand. -/
theorem decodeFrame_eq_ok (c : WireConfig) (w : Bytes7) (i : Instr) :
    decodeFrame c w = .ok i ↔ w.b0 = c.start ∧ w.b5 = c.endMarker ∧ i = idRow c (windowFields w) := by
  unfold decodeFrame
  split_ifs with h0 h5 <;> simp_all [eq_comm]

/-- A decoded frame is the window it was decoded from. -/
theorem rowWindow_of_decodeFrame {c : WireConfig} (hc : c.wf = true) {w : Bytes7} {i : Instr}
    (h : decodeFrame c w = .ok i) : ∃ f, frameFields? c i = some f ∧ rowWindow c f = w := by
  obtain ⟨h0, h5, rfl⟩ := (decodeFrame_eq_ok c w i).1 h
  exact ⟨windowFields w, frameFields_idRow hc _, rowWindow_windowFields w h0 h5⟩

/-- The fields of a row under a record, and whether it is a frame row at all, come from the same row. -/
theorem frameFields_eq_none {c : WireConfig} {i : Instr} : frameFields? c i = none ↔ frameRow? i = none := by
  simp [frameFields?]

/-- The bare message row holds the message it was given, and is no frame row. -/
theorem packedMessage_messageRow {c : WireConfig} (hc : c.wf = true) (m : Message) :
    packedMessage? c (messageRow c m) = some m ∧ frameFields? c (messageRow c m) = none := by
  obtain ⟨t, i, p⟩ := m
  have ht := code_typeOf hc t
  unfold messageRow
  dsimp only
  split <;> rename_i h <;> rw [h] at ht <;>
    simp only [packedMessage?, messageRow?, frameFields?, frameRow?, Option.map_some, Option.map_none, ht, and_self]

end Sys2Proof.Machine
end

