-- ==== Sys2Proof/Laws/Scan.lean ====
section
/-! SUPPORT. The search, the window and the dispatcher of a scan step (42_synchronizer.md R142), and how they
behave when bytes are appended or dropped. -/

namespace Sys2Proof.Machine

open Sys2Proof.Config

theorem firstIndex_eq_some {v : Byte} {l : List Byte} {p : Nat} :
    firstIndex v l = some p ↔ l[p]? = some v ∧ ∀ j < p, l[j]? ≠ some v := by
  induction l generalizing p with
  | nil => simp [firstIndex]
  | cons b l ih =>
    by_cases hb : b = v
    · subst hb
      cases p with
      | zero => simp [firstIndex]
      | succ p =>
        simp only [firstIndex, if_true, Option.some.injEq, List.getElem?_cons_succ]
        constructor
        · intro h; omega
        · rintro ⟨-, h⟩; exact absurd (by simp) (h 0 (by omega))
    · cases p with
      | zero => simp [firstIndex, hb]
      | succ p =>
        simp only [firstIndex, hb, if_false, Option.map_eq_some_iff, Nat.add_right_cancel_iff,
          List.getElem?_cons_succ]
        constructor
        · rintro ⟨q, hq, rfl⟩
          refine ⟨(ih.1 hq).1, fun j hj => ?_⟩
          cases j with
          | zero => simp [hb]
          | succ j => simpa using (ih.1 hq).2 j (by omega)
        · rintro ⟨h1, h2⟩
          exact ⟨p, ih.2 ⟨h1, fun j hj => by simpa using h2 (j + 1) (by omega)⟩, rfl⟩

theorem firstIndex_eq_none {v : Byte} {l : List Byte} : firstIndex v l = none ↔ v ∉ l := by
  induction l with
  | nil => simp [firstIndex]
  | cons b l ih =>
    by_cases hb : b = v
    · simp [firstIndex, hb]
    · simp [firstIndex, hb, ih, Ne.symm hb]

theorem firstIndex_lt {v : Byte} {l : List Byte} {p : Nat} (h : firstIndex v l = some p) : p < l.length := by
  have := (firstIndex_eq_some.1 h).1
  exact (List.getElem?_eq_some_iff.1 this).1

/-- Bytes appended behind a found marker do not move it. -/
theorem firstIndex_append {v : Byte} {l : List Byte} {p : Nat} (h : firstIndex v l = some p) (ys : List Byte) :
    firstIndex v (l ++ ys) = some p := by
  have hp := firstIndex_lt h
  obtain ⟨h1, h2⟩ := firstIndex_eq_some.1 h
  refine firstIndex_eq_some.2 ⟨by rw [List.getElem?_append_left hp]; exact h1, fun j hj => ?_⟩
  rw [List.getElem?_append_left (by omega)]; exact h2 j hj

/-- Behind a stretch without a marker the search goes on in what follows. -/
theorem firstIndex_append_of_none {v : Byte} {l : List Byte} (h : firstIndex v l = none) (ys : List Byte) :
    firstIndex v (l ++ ys) = (firstIndex v ys).map (· + l.length) := by
  induction l with
  | nil => simp
  | cons b l ih =>
    have hb : b ≠ v := fun e => by simp [firstIndex, e] at h
    have hl : firstIndex v l = none := by simpa [firstIndex, hb] using h
    simp only [List.cons_append, firstIndex, hb, if_false, ih hl, Option.map_map, List.length_cons]
    congr 1

/-- Bytes dropped in front of the marker move it forward. -/
theorem firstIndex_drop {v : Byte} {l : List Byte} {p : Nat} (h : firstIndex v l = some p) {k : Nat} (hk : k ≤ p) :
    firstIndex v (l.drop k) = some (p - k) := by
  obtain ⟨h1, h2⟩ := firstIndex_eq_some.1 h
  refine firstIndex_eq_some.2 ⟨?_, fun j hj => ?_⟩
  · rw [List.getElem?_drop, show k + (p - k) = p by omega]; exact h1
  · rw [List.getElem?_drop]; exact h2 _ (by omega)

/-- No window: no whole frame from there, or fewer than its 7 fields. -/
theorem windowAt_eq_none {c : WireConfig} {l : List Byte} {p : Nat} :
    windowAt c l p = none ↔ l.length < p + c.frameLen ∨ l.length < p + 7 := by
  unfold windowAt
  split_ifs with hc
  · simp [hc]
  · simp only [hc, false_or]
    split
    · rename_i h
      have := congrArg List.length h
      simp at this ⊢; omega
    · rename_i h
      simp only [true_iff]
      by_contra hn
      have hlen : 7 ≤ (l.drop p).length := by simp; omega
      match hd : l.drop p, hlen with
      | b0 :: b1 :: b2 :: b3 :: b4 :: b5 :: b6 :: t, _ => exact h _ _ _ _ _ _ _ _ hd

/-- A window, byte by byte. -/
theorem windowAt_eq_some {c : WireConfig} {l : List Byte} {p : Nat} {w : Bytes7} :
    windowAt c l p = some w ↔ p + c.frameLen ≤ l.length ∧ ∃ t, l.drop p = bytes7List w ++ t := by
  unfold windowAt
  split_ifs with hc
  · simp; omega
  · have hc' : p + c.frameLen ≤ l.length := by omega
    simp only [hc', true_and]
    split
    · rename_i h
      constructor
      · intro e; cases e; exact ⟨_, h⟩
      · rintro ⟨t, ht⟩
        rw [h] at ht
        simp [bytes7List] at ht
        obtain ⟨h0, h1, h2, h3, h4, h5, h6, -⟩ := ht
        simp [h0, h1, h2, h3, h4, h5, h6]
    · rename_i h
      simp only [reduceCtorEq, false_iff]
      rintro ⟨t, ht⟩
      exact h _ _ _ _ _ _ _ _ (by simpa [bytes7List] using ht)

theorem windowAt_length {c : WireConfig} {l : List Byte} {p : Nat} {w : Bytes7} (h : windowAt c l p = some w) :
    p + c.frameLen ≤ l.length ∧ p + 7 ≤ l.length := by
  have hn : ¬ (l.length < p + c.frameLen ∨ l.length < p + 7) := fun hc => by
    rw [windowAt_eq_none.2 hc] at h; cases h
  omega

/-- A whole window is not changed by bytes that arrive later. -/
theorem windowAt_append {c : WireConfig} {l : List Byte} {p : Nat} {w : Bytes7} (h : windowAt c l p = some w)
    (ys : List Byte) : windowAt c (l ++ ys) p = some w := by
  have hp := windowAt_length h
  obtain ⟨h1, t, ht⟩ := windowAt_eq_some.1 h
  exact windowAt_eq_some.2 ⟨by simp; omega, t ++ ys, by
    rw [List.drop_append_of_le_length (by omega), ht, List.append_assoc]⟩

theorem windowAt_drop (c : WireConfig) (l : List Byte) (k p : Nat) :
    windowAt c (l.drop k) p = windowAt c l (k + p) := by
  cases h : windowAt c l (k + p) with
  | none =>
    have := windowAt_eq_none.1 h
    exact windowAt_eq_none.2 (by simp; omega)
  | some w =>
    obtain ⟨h1, t, ht⟩ := windowAt_eq_some.1 h
    exact windowAt_eq_some.2 ⟨by simp; omega, t, by rw [List.drop_drop]; exact ht⟩

/-- The window at a found marker starts with the marker (R69). -/
theorem windowAt_start {c : WireConfig} {v : Byte} {l : List Byte} {p : Nat} {w : Bytes7}
    (h : firstIndex v l = some p) (hw : windowAt c l p = some w) : w.b0 = v := by
  obtain ⟨-, t, ht⟩ := windowAt_eq_some.1 hw
  have h1 := (firstIndex_eq_some.1 h).1
  have h2 : (l.drop p)[0]? = some v := by rw [List.getElem?_drop]; simpa using h1
  rw [ht] at h2
  simpa [bytes7List] using h2

/-- Everything the dispatcher can answer, each outcome with its condition (R142). -/
theorem scan_cases (c : WireConfig) (l : List Byte) :
    (scan c l = .short ∧ l.length < c.frameLen) ∨
    (scan c l = .discard ∧ c.frameLen ≤ l.length ∧ firstIndex c.start l = none) ∨
    (∃ p, scan c l = .wait p ∧ c.frameLen ≤ l.length ∧ firstIndex c.start l = some p ∧ windowAt c l p = none) ∨
    (∃ p w, scan c l = .emit p w ∧ firstIndex c.start l = some p ∧ windowAt c l p = some w ∧
      windowValid c w = true) ∨
    (∃ p w, scan c l = .resync p w ∧ firstIndex c.start l = some p ∧ windowAt c l p = some w ∧
      windowValid c w = false) := by
  unfold scan
  by_cases hl : l.length < c.frameLen
  · exact .inl ⟨by simp [hl], hl⟩
  have h7 : c.frameLen ≤ l.length := by omega
  simp only [hl, if_false]
  cases hf : firstIndex c.start l with
  | none => exact .inr (.inl ⟨rfl, h7, rfl⟩)
  | some p =>
    cases hwd : windowAt c l p with
    | none => exact .inr (.inr (.inl ⟨p, by simp [hwd], h7, rfl, hwd⟩))
    | some w =>
      cases hv : windowValid c w with
      | true => exact .inr (.inr (.inr (.inl ⟨p, w, by simp [hwd, hv], rfl, hwd, hv⟩)))
      | false => exact .inr (.inr (.inr (.inr ⟨p, w, by simp [hwd, hv], rfl, hwd, hv⟩)))

theorem scan_short {c : WireConfig} {l : List Byte} : scan c l = .short ↔ l.length < c.frameLen := by
  rcases scan_cases c l with ⟨h, h1⟩ | ⟨h, h1, -⟩ | ⟨p, h, h1, -⟩ | ⟨p, w, h, -, h1, -⟩ | ⟨p, w, h, -, h1, -⟩ <;>
    simp only [h, reduceCtorEq, true_iff, false_iff, not_lt]
  · exact h1
  · exact h1
  · exact h1
  · have := windowAt_length h1; omega
  · have := windowAt_length h1; omega

theorem scan_discard {c : WireConfig} {l : List Byte} :
    scan c l = .discard ↔ c.frameLen ≤ l.length ∧ firstIndex c.start l = none := by
  rcases scan_cases c l with ⟨h, h1⟩ | ⟨h, h1, h2⟩ | ⟨p, h, -, h2, -⟩ | ⟨p, w, h, h2, -⟩ | ⟨p, w, h, h2, -⟩
  · simp only [h, reduceCtorEq, false_iff]; omega
  · simp [h, h1, h2]
  · simp [h, h2]
  · simp [h, h2]
  · simp [h, h2]

theorem scan_wait {c : WireConfig} {l : List Byte} {p : Nat} :
    scan c l = .wait p ↔ c.frameLen ≤ l.length ∧ firstIndex c.start l = some p ∧ windowAt c l p = none := by
  constructor
  · intro h
    rcases scan_cases c l with ⟨h', h1⟩ | ⟨h', h1, h2⟩ | ⟨q, h', h1, h2, h3⟩ | ⟨q, v, h', h1, h2, h3⟩ | ⟨q, v, h', h1, h2, h3⟩ <;>
      rw [h] at h' <;> simp at h'
    subst h'; exact ⟨h1, h2, h3⟩
  · rintro ⟨h1, h2, h3⟩
    simp [scan, Nat.not_lt.2 h1, h2, h3]

/-- With the lengths of R8 a window is missing exactly where fewer than `FRAME_LEN` bytes remain (R145). -/
theorem windowAt_none_wf {c : WireConfig} (hc : c.wf = true) {l : List Byte} {p : Nat} :
    windowAt c l p = none ↔ l.length < p + c.frameLen := by
  rw [windowAt_eq_none, frameLen_eq hc]; simp

theorem scan_emit {c : WireConfig} {l : List Byte} {p : Nat} {w : Bytes7} :
    scan c l = .emit p w ↔ firstIndex c.start l = some p ∧ windowAt c l p = some w ∧ windowValid c w = true := by
  constructor
  · intro h
    rcases scan_cases c l with ⟨h', h1⟩ | ⟨h', h1, h2⟩ | ⟨q, h', h1, h2, h3⟩ | ⟨q, v, h', h1, h2, h3⟩ | ⟨q, v, h', h1, h2, h3⟩ <;>
      rw [h] at h' <;> simp at h'
    obtain ⟨rfl, rfl⟩ := h'; exact ⟨h1, h2, h3⟩
  · rintro ⟨h1, h2, h3⟩
    have := windowAt_length h2
    have hl : ¬ l.length < c.frameLen := by omega
    simp [scan, hl, h1, h2, h3]

theorem scan_resync {c : WireConfig} {l : List Byte} {p : Nat} {w : Bytes7} :
    scan c l = .resync p w ↔ firstIndex c.start l = some p ∧ windowAt c l p = some w ∧ windowValid c w = false := by
  constructor
  · intro h
    rcases scan_cases c l with ⟨h', h1⟩ | ⟨h', h1, h2⟩ | ⟨q, h', h1, h2, h3⟩ | ⟨q, v, h', h1, h2, h3⟩ | ⟨q, v, h', h1, h2, h3⟩ <;>
      rw [h] at h' <;> simp at h'
    obtain ⟨rfl, rfl⟩ := h'; exact ⟨h1, h2, h3⟩
  · rintro ⟨h1, h2, h3⟩
    have := windowAt_length h2
    have hl : ¬ l.length < c.frameLen := by omega
    simp [scan, hl, h1, h2, h3]

end Sys2Proof.Machine
end

