-- ==== Sys2Proof/Laws/State.lean ====
section
/-! SUPPORT. Every field of every update of the state, so that no proof unfolds a record update. -/

namespace Sys2Proof.Machine

variable (s : State)

@[simp] theorem reply_link (r : Result) (ls : List Label) : (s.reply r ls).link = s.link := rfl
@[simp] theorem reply_phase (r : Result) (ls : List Label) : (s.reply r ls).phase = s.phase := rfl
@[simp] theorem reply_rxbuf (r : Result) (ls : List Label) : (s.reply r ls).rxbuf = s.rxbuf := rfl
@[simp] theorem reply_msgq (r : Result) (ls : List Label) : (s.reply r ls).msgq = s.msgq := rfl
@[simp] theorem reply_txstream (r : Result) (ls : List Label) : (s.reply r ls).txstream = s.txstream := rfl
@[simp] theorem reply_rxhist (r : Result) (ls : List Label) : (s.reply r ls).rxhist = s.rxhist := rfl
@[simp] theorem reply_consumed (r : Result) (ls : List Label) : (s.reply r ls).consumed = s.consumed := rfl
@[simp] theorem reply_emitted (r : Result) (ls : List Label) : (s.reply r ls).emitted = s.emitted := rfl
@[simp] theorem reply_msgqCap (r : Result) (ls : List Label) : (s.reply r ls).msgqCap = s.msgqCap := rfl
@[simp] theorem reply_config (r : Result) (ls : List Label) : (s.reply r ls).config = s.config := rfl
@[simp] theorem reply_inbox (r : Result) (ls : List Label) : (s.reply r ls).inbox = s.inbox := rfl
@[simp] theorem reply_result (r : Result) (ls : List Label) : (s.reply r ls).result = r := rfl
@[simp] theorem reply_labels (r : Result) (ls : List Label) : (s.reply r ls).labels = ls := rfl

@[simp] theorem hold_link : (s.hold).link = s.link := rfl
@[simp] theorem hold_phase : (s.hold).phase = s.phase := rfl
@[simp] theorem hold_rxbuf : (s.hold).rxbuf = s.rxbuf := rfl
@[simp] theorem hold_msgq : (s.hold).msgq = s.msgq := rfl
@[simp] theorem hold_txstream : (s.hold).txstream = s.txstream := rfl
@[simp] theorem hold_rxhist : (s.hold).rxhist = s.rxhist := rfl
@[simp] theorem hold_consumed : (s.hold).consumed = s.consumed := rfl
@[simp] theorem hold_emitted : (s.hold).emitted = s.emitted := rfl
@[simp] theorem hold_msgqCap : (s.hold).msgqCap = s.msgqCap := rfl
@[simp] theorem hold_config : (s.hold).config = s.config := rfl
@[simp] theorem hold_inbox : (s.hold).inbox = s.inbox := rfl
@[simp] theorem hold_result : (s.hold).result = .hold := rfl
@[simp] theorem hold_labels : (s.hold).labels = [] := rfl

@[simp] theorem appendRx_link (chunk : List Byte) : (s.appendRx chunk).link = s.link := rfl
@[simp] theorem appendRx_phase (chunk : List Byte) : (s.appendRx chunk).phase = .scanning := rfl
@[simp] theorem appendRx_rxbuf (chunk : List Byte) : (s.appendRx chunk).rxbuf = s.rxbuf ++ chunk := rfl
@[simp] theorem appendRx_msgq (chunk : List Byte) : (s.appendRx chunk).msgq = s.msgq := rfl
@[simp] theorem appendRx_txstream (chunk : List Byte) : (s.appendRx chunk).txstream = s.txstream := rfl
@[simp] theorem appendRx_rxhist (chunk : List Byte) : (s.appendRx chunk).rxhist = s.rxhist ++ chunk := rfl
@[simp] theorem appendRx_consumed (chunk : List Byte) : (s.appendRx chunk).consumed = s.consumed := rfl
@[simp] theorem appendRx_emitted (chunk : List Byte) : (s.appendRx chunk).emitted = s.emitted := rfl
@[simp] theorem appendRx_msgqCap (chunk : List Byte) : (s.appendRx chunk).msgqCap = s.msgqCap := rfl
@[simp] theorem appendRx_config (chunk : List Byte) : (s.appendRx chunk).config = s.config := rfl
@[simp] theorem appendRx_inbox (chunk : List Byte) : (s.appendRx chunk).inbox = s.inbox := rfl
@[simp] theorem appendRx_result (chunk : List Byte) : (s.appendRx chunk).result = s.result := rfl
@[simp] theorem appendRx_labels (chunk : List Byte) : (s.appendRx chunk).labels = s.labels := rfl

@[simp] theorem endPass_link : (s.endPass).link = s.link := rfl
@[simp] theorem endPass_phase : (s.endPass).phase = .refill := rfl
@[simp] theorem endPass_rxbuf : (s.endPass).rxbuf = s.rxbuf := rfl
@[simp] theorem endPass_msgq : (s.endPass).msgq = s.msgq := rfl
@[simp] theorem endPass_txstream : (s.endPass).txstream = s.txstream := rfl
@[simp] theorem endPass_rxhist : (s.endPass).rxhist = s.rxhist := rfl
@[simp] theorem endPass_consumed : (s.endPass).consumed = s.consumed := rfl
@[simp] theorem endPass_emitted : (s.endPass).emitted = s.emitted := rfl
@[simp] theorem endPass_msgqCap : (s.endPass).msgqCap = s.msgqCap := rfl
@[simp] theorem endPass_config : (s.endPass).config = s.config := rfl
@[simp] theorem endPass_inbox : (s.endPass).inbox = s.inbox := rfl
@[simp] theorem endPass_result : (s.endPass).result = s.result := rfl
@[simp] theorem endPass_labels : (s.endPass).labels = s.labels := rfl

@[simp] theorem dropHead_link (n : Nat) : (s.dropHead n).link = s.link := rfl
@[simp] theorem dropHead_phase (n : Nat) : (s.dropHead n).phase = s.phase := rfl
@[simp] theorem dropHead_rxbuf (n : Nat) : (s.dropHead n).rxbuf = s.rxbuf.drop n := rfl
@[simp] theorem dropHead_msgq (n : Nat) : (s.dropHead n).msgq = s.msgq := rfl
@[simp] theorem dropHead_txstream (n : Nat) : (s.dropHead n).txstream = s.txstream := rfl
@[simp] theorem dropHead_rxhist (n : Nat) : (s.dropHead n).rxhist = s.rxhist := rfl
@[simp] theorem dropHead_consumed (n : Nat) : (s.dropHead n).consumed = s.consumed + n := rfl
@[simp] theorem dropHead_emitted (n : Nat) : (s.dropHead n).emitted = s.emitted := rfl
@[simp] theorem dropHead_msgqCap (n : Nat) : (s.dropHead n).msgqCap = s.msgqCap := rfl
@[simp] theorem dropHead_config (n : Nat) : (s.dropHead n).config = s.config := rfl
@[simp] theorem dropHead_inbox (n : Nat) : (s.dropHead n).inbox = s.inbox := rfl
@[simp] theorem dropHead_result (n : Nat) : (s.dropHead n).result = s.result := rfl
@[simp] theorem dropHead_labels (n : Nat) : (s.dropHead n).labels = s.labels := rfl

@[simp] theorem discardAll_link : (s.discardAll).link = s.link := rfl
@[simp] theorem discardAll_phase : (s.discardAll).phase = s.phase := rfl
@[simp] theorem discardAll_rxbuf : (s.discardAll).rxbuf = [] := rfl
@[simp] theorem discardAll_msgq : (s.discardAll).msgq = s.msgq := rfl
@[simp] theorem discardAll_txstream : (s.discardAll).txstream = s.txstream := rfl
@[simp] theorem discardAll_rxhist : (s.discardAll).rxhist = s.rxhist := rfl
@[simp] theorem discardAll_consumed : (s.discardAll).consumed = s.consumed + s.rxbuf.length := rfl
@[simp] theorem discardAll_emitted : (s.discardAll).emitted = s.emitted := rfl
@[simp] theorem discardAll_msgqCap : (s.discardAll).msgqCap = s.msgqCap := rfl
@[simp] theorem discardAll_config : (s.discardAll).config = s.config := rfl
@[simp] theorem discardAll_inbox : (s.discardAll).inbox = s.inbox := rfl
@[simp] theorem discardAll_result : (s.discardAll).result = s.result := rfl
@[simp] theorem discardAll_labels : (s.discardAll).labels = s.labels := rfl

@[simp] theorem pushMsg_link (m : Message) : (s.pushMsg m).link = s.link := rfl
@[simp] theorem pushMsg_phase (m : Message) : (s.pushMsg m).phase = s.phase := rfl
@[simp] theorem pushMsg_rxbuf (m : Message) : (s.pushMsg m).rxbuf = s.rxbuf := rfl
@[simp] theorem pushMsg_msgq (m : Message) : (s.pushMsg m).msgq = s.msgq ++ [m] := rfl
@[simp] theorem pushMsg_txstream (m : Message) : (s.pushMsg m).txstream = s.txstream := rfl
@[simp] theorem pushMsg_rxhist (m : Message) : (s.pushMsg m).rxhist = s.rxhist := rfl
@[simp] theorem pushMsg_consumed (m : Message) : (s.pushMsg m).consumed = s.consumed := rfl
@[simp] theorem pushMsg_emitted (m : Message) : (s.pushMsg m).emitted = s.emitted ++ [m] := rfl
@[simp] theorem pushMsg_msgqCap (m : Message) : (s.pushMsg m).msgqCap = s.msgqCap := rfl
@[simp] theorem pushMsg_config (m : Message) : (s.pushMsg m).config = s.config := rfl
@[simp] theorem pushMsg_inbox (m : Message) : (s.pushMsg m).inbox = s.inbox := rfl
@[simp] theorem pushMsg_result (m : Message) : (s.pushMsg m).result = s.result := rfl
@[simp] theorem pushMsg_labels (m : Message) : (s.pushMsg m).labels = s.labels := rfl

@[simp] theorem popMsg_link : (s.popMsg).link = s.link := rfl
@[simp] theorem popMsg_phase : (s.popMsg).phase = s.phase := rfl
@[simp] theorem popMsg_rxbuf : (s.popMsg).rxbuf = s.rxbuf := rfl
@[simp] theorem popMsg_msgq : (s.popMsg).msgq = s.msgq.drop 1 := rfl
@[simp] theorem popMsg_txstream : (s.popMsg).txstream = s.txstream := rfl
@[simp] theorem popMsg_rxhist : (s.popMsg).rxhist = s.rxhist := rfl
@[simp] theorem popMsg_consumed : (s.popMsg).consumed = s.consumed := rfl
@[simp] theorem popMsg_emitted : (s.popMsg).emitted = s.emitted := rfl
@[simp] theorem popMsg_msgqCap : (s.popMsg).msgqCap = s.msgqCap := rfl
@[simp] theorem popMsg_config : (s.popMsg).config = s.config := rfl
@[simp] theorem popMsg_inbox : (s.popMsg).inbox = s.inbox := rfl
@[simp] theorem popMsg_result : (s.popMsg).result = s.result := rfl
@[simp] theorem popMsg_labels : (s.popMsg).labels = s.labels := rfl

@[simp] theorem transmit_link (bs : List Byte) : (s.transmit bs).link = s.link := rfl
@[simp] theorem transmit_phase (bs : List Byte) : (s.transmit bs).phase = s.phase := rfl
@[simp] theorem transmit_rxbuf (bs : List Byte) : (s.transmit bs).rxbuf = s.rxbuf := rfl
@[simp] theorem transmit_msgq (bs : List Byte) : (s.transmit bs).msgq = s.msgq := rfl
@[simp] theorem transmit_txstream (bs : List Byte) : (s.transmit bs).txstream = s.txstream ++ bs := rfl
@[simp] theorem transmit_rxhist (bs : List Byte) : (s.transmit bs).rxhist = s.rxhist := rfl
@[simp] theorem transmit_consumed (bs : List Byte) : (s.transmit bs).consumed = s.consumed := rfl
@[simp] theorem transmit_emitted (bs : List Byte) : (s.transmit bs).emitted = s.emitted := rfl
@[simp] theorem transmit_msgqCap (bs : List Byte) : (s.transmit bs).msgqCap = s.msgqCap := rfl
@[simp] theorem transmit_config (bs : List Byte) : (s.transmit bs).config = s.config := rfl
@[simp] theorem transmit_inbox (bs : List Byte) : (s.transmit bs).inbox = s.inbox := rfl
@[simp] theorem transmit_result (bs : List Byte) : (s.transmit bs).result = s.result := rfl
@[simp] theorem transmit_labels (bs : List Byte) : (s.transmit bs).labels = s.labels := rfl

@[simp] theorem openLink_link : (s.openLink).link = .opened := rfl
@[simp] theorem openLink_phase : (s.openLink).phase = .refill := rfl
@[simp] theorem openLink_rxbuf : (s.openLink).rxbuf = [] := rfl
@[simp] theorem openLink_msgq : (s.openLink).msgq = s.msgq := rfl
@[simp] theorem openLink_txstream : (s.openLink).txstream = s.txstream := rfl
@[simp] theorem openLink_rxhist : (s.openLink).rxhist = [] := rfl
@[simp] theorem openLink_consumed : (s.openLink).consumed = 0 := rfl
@[simp] theorem openLink_emitted : (s.openLink).emitted = [] := rfl
@[simp] theorem openLink_msgqCap : (s.openLink).msgqCap = s.msgqCap := rfl
@[simp] theorem openLink_config : (s.openLink).config = s.config := rfl
@[simp] theorem openLink_inbox : (s.openLink).inbox = s.inbox := rfl
@[simp] theorem openLink_result : (s.openLink).result = s.result := rfl
@[simp] theorem openLink_labels : (s.openLink).labels = s.labels := rfl

@[simp] theorem closeLink_link : (s.closeLink).link = .closed := rfl
@[simp] theorem closeLink_phase : (s.closeLink).phase = s.phase := rfl
@[simp] theorem closeLink_rxbuf : (s.closeLink).rxbuf = [] := rfl
@[simp] theorem closeLink_msgq : (s.closeLink).msgq = s.msgq := rfl
@[simp] theorem closeLink_txstream : (s.closeLink).txstream = s.txstream := rfl
@[simp] theorem closeLink_rxhist : (s.closeLink).rxhist = s.rxhist := rfl
@[simp] theorem closeLink_consumed : (s.closeLink).consumed = s.consumed := rfl
@[simp] theorem closeLink_emitted : (s.closeLink).emitted = s.emitted := rfl
@[simp] theorem closeLink_msgqCap : (s.closeLink).msgqCap = s.msgqCap := rfl
@[simp] theorem closeLink_config : (s.closeLink).config = s.config := rfl
@[simp] theorem closeLink_inbox : (s.closeLink).inbox = s.inbox := rfl
@[simp] theorem closeLink_result : (s.closeLink).result = s.result := rfl
@[simp] theorem closeLink_labels : (s.closeLink).labels = s.labels := rfl

@[simp] theorem clearAll_link : (s.clearAll).link = .closed := rfl
@[simp] theorem clearAll_phase : (s.clearAll).phase = .refill := rfl
@[simp] theorem clearAll_rxbuf : (s.clearAll).rxbuf = [] := rfl
@[simp] theorem clearAll_msgq : (s.clearAll).msgq = [] := rfl
@[simp] theorem clearAll_txstream : (s.clearAll).txstream = [] := rfl
@[simp] theorem clearAll_rxhist : (s.clearAll).rxhist = [] := rfl
@[simp] theorem clearAll_consumed : (s.clearAll).consumed = 0 := rfl
@[simp] theorem clearAll_emitted : (s.clearAll).emitted = [] := rfl
@[simp] theorem clearAll_msgqCap : (s.clearAll).msgqCap = s.msgqCap := rfl
@[simp] theorem clearAll_config : (s.clearAll).config = s.config := rfl
@[simp] theorem clearAll_inbox : (s.clearAll).inbox = s.inbox := rfl
@[simp] theorem clearAll_result : (s.clearAll).result = s.result := rfl
@[simp] theorem clearAll_labels : (s.clearAll).labels = s.labels := rfl

end Sys2Proof.Machine
end

