-- ==== Sys2Proof/Laws/Exec.lean ====
section
/-! SUPPORT. Everything an instruction can do, said once: its meaning is a chain of elementary updates of the
block, with outputs recorded between them; an invariant of the updates is an invariant of every step. -/

namespace Sys2Proof.Machine

open Sys2Proof.Config

/-- The elementary updates of the block, each with the condition under which a step makes it and the
instruction that asks for it (R141 to R149, R170 to R174). -/
inductive Update (i : Instr) (s : State) : State → Prop where
  | append (chunk : List Byte) : i = .rxAppend chunk ∨ i = .rxPass chunk → s.canRefill = true →
      Update i s (s.appendRx chunk)
  | short : Safety.isScan i = true → s.outcome? = some .short → Update i s s.endPass
  | discard : Safety.isScan i = true → s.outcome? = some .discard → Update i s s.discardAll.endPass
  | wait (p : Nat) : Safety.isScan i = true → s.outcome? = some (.wait p) → Update i s s.endPass
  | take (p : Nat) (w : Bytes7) : Safety.isScan i = true → s.outcome? = some (.emit p w) → s.room = true →
      Update i s ((s.pushMsg (messageOf (unpackMessage s.config (windowMessage w)))).dropHead (p + s.config.frameLen))
  | reject (p : Nat) (w : Bytes7) : Safety.isScan i = true → s.outcome? = some (.resync p w) → Update i s (s.dropHead (p + 1))
  | pop (m : Message) (ms : List Message) : i = .msgqPop → s.msgq = m :: ms → Update i s s.popMsg
  | send (type : TypeCode) (index : Index) (payload : Payload) : i = .txSend type index payload →
      s.link = .opened → Update i s (s.transmit (sentBytes s.config type index payload))
  | opens : i = .linkOpen true → s.link = .closed → Update i s s.openLink
  | closes : i = .linkClose → s.link = .opened → s.phase = .refill → Update i s s.closeLink
  | clears : i = .reset → Update i s s.clearAll

/-- A predicate that the updates of an instruction and the recording of outputs keep. -/
structure Kept (i : Instr) (P : State → Prop) : Prop where
  reply : ∀ s r ls, P s → P (s.reply r ls)
  update : ∀ s u, P s → Update i s u → P u

theorem inPass_iff {s : State} : s.inPass = true ↔ s.link = .opened ∧ s.phase = .scanning := by
  simp [State.inPass]

theorem canRefill_iff {s : State} : s.canRefill = true ↔ s.link = .opened ∧ s.phase = .refill := by
  simp [State.canRefill]

/-- An outcome stands before the block only inside a pass, and is the one of its buffer. -/
theorem outcome_eq_some {s : State} {o : ScanOutcome} :
    s.outcome? = some o ↔ s.link = .opened ∧ s.phase = .scanning ∧ scan s.config s.rxbuf = o := by
  unfold State.outcome?
  split_ifs with h
  · obtain ⟨h1, h2⟩ := inPass_iff.1 h; simp [h1, h2]
  · simp only [false_iff]
    rintro ⟨h1, h2, -⟩; exact h (inPass_iff.2 ⟨h1, h2⟩)

/-- The fetched window is the one of an EMIT or a RESYNC (R142). -/
theorem window_eq_some {s : State} {p : Nat} {w : Bytes7} :
    s.window? = some (p, w) ↔ s.outcome? = some (.emit p w) ∨ s.outcome? = some (.resync p w) := by
  unfold State.window?
  cases s.outcome? with
  | none => simp
  | some o => cases o <;> simp

/-- A fetched window is valid exactly when its outcome is EMIT. -/
theorem window_outcome {s : State} {p : Nat} {w : Bytes7} (h : s.window? = some (p, w)) :
    s.outcome? = some (if windowValid s.config w then .emit p w else .resync p w) := by
  rcases window_eq_some.1 h with h | h
  · have := (scan_emit.1 (outcome_eq_some.1 h).2.2).2.2; simpa [this] using h
  · have := (scan_resync.1 (outcome_eq_some.1 h).2.2).2.2; simpa [this] using h

/-- A frame row scans the buffer. -/
theorem isScan_frame {i : Instr} {r : FrameRow} (h : frameRow? i = some r) : Safety.isScan i = true := by
  unfold Safety.isScan
  split <;> simp_all [frameRow?]

theorem keeps_take {i : Instr} {P : State → Prop} (k : Kept i P) (hi : Safety.isScan i = true) {s : State} {p : Nat} {w : Bytes7}
    (h : s.outcome? = some (.emit p w)) (hs : P s) : P (takeFrame p w s) := by
  unfold takeFrame
  split_ifs with hr
  · exact k.reply _ _ _ (k.update _ _ hs (.take p w hi h hr))
  · exact k.reply _ _ _ hs

theorem keeps_outcome {i : Instr} {P : State → Prop} (k : Kept i P) (hi : Safety.isScan i = true) {s : State} {o : ScanOutcome}
    (h : s.outcome? = some o) (hs : P s) : P (applyOutcome o s) := by
  cases o with
  | short => exact k.reply _ _ _ (k.update _ _ hs (.short hi h))
  | discard => exact k.reply _ _ _ (k.update _ _ hs (.discard hi h))
  | wait p => exact k.reply _ _ _ (k.update _ _ hs (.wait p hi h))
  | emit p w => exact keeps_take k hi h hs
  | resync p w => exact k.reply _ _ _ (k.update _ _ hs (.reject p w hi h))

theorem keeps_scanStep {i : Instr} {P : State → Prop} (k : Kept i P) (hi : Safety.isScan i = true) {s : State} (hs : P s) : P (scanStep s) := by
  unfold scanStep
  split
  · exact keeps_outcome k hi ‹_› hs
  · exact k.reply _ _ _ hs

theorem keeps_scanLoop {i : Instr} {P : State → Prop} (k : Kept i P) (hi : Safety.isScan i = true) (n : Nat) :
    ∀ s, P s → P (scanLoop n s) := by
  induction n with
  | zero => exact fun s hs => hs
  | succ n ih =>
    intro s hs
    unfold scanLoop
    split_ifs
    · exact ih _ (k.reply _ _ _ (keeps_scanStep k hi hs))
    · exact hs

theorem keeps_pass {P : State → Prop} {chunk : List Byte} (k : Kept (.rxPass chunk) P) {s : State} (hs : P s) :
    P (passStep chunk s) := by
  unfold passStep
  split_ifs with hr
  · have ha : P ((s.appendRx chunk).reply .none []) := k.reply _ _ _ (k.update _ _ hs (.append chunk (.inr rfl) hr))
    have hl := keeps_scanLoop k rfl (s.rxbuf.length + chunk.length + 1) _ ha
    dsimp only
    split_ifs
    · exact hl
    · exact k.reply _ _ _ hl
  · exact k.reply _ _ _ hs

theorem keeps_receive {i : Instr} {P : State → Prop} (k : Kept i P) (hi : Safety.isScan i = true) (f : FrameFields) {s : State} (hs : P s) :
    P (receiveFrame f s) := by
  unfold receiveFrame
  split
  · rename_i p w h
    have ho := window_outcome h
    split_ifs with h1 h2
    · exact keeps_take k hi (by simpa [h2] using ho) hs
    · exact k.reply _ _ _ (k.update _ _ hs (.reject p w hi (by simpa [h2] using ho)))
    · exact k.reply _ _ _ hs
  · exact k.reply _ _ _ hs

theorem keeps_row {i : Instr} {P : State → Prop} (k : Kept i P) (hi : Safety.isScan i = true) {s : State} (hs : P s) :
    P (receiveRow i s) := by
  unfold receiveRow
  split
  · exact keeps_receive k hi _ hs
  · exact k.reply _ _ _ hs

/-- Every frame row is the shared reception of its fields (R185 to R188). -/
theorem exec_row {i : Instr} {r : FrameRow} (h : frameRow? i = some r) (s : State) :
    exec i s = .next (receiveRow i s) := by
  cases i <;> first
    | rfl
    | (simp [frameRow?] at h)

/-- The same, with the fields under the record of the state. -/
theorem exec_frame {i : Instr} {s : State} {f : FrameFields} (h : frameFields? s.config i = some f) :
    exec i s = .next (receiveFrame f s) := by
  have hr : ∃ r, frameRow? i = some r := by
    simp only [frameFields?, Option.map_eq_some_iff] at h
    obtain ⟨r, hr, -⟩ := h; exact ⟨r, hr⟩
  obtain ⟨r, hr⟩ := hr
  rw [exec_row hr]
  simp [receiveRow, h]

/-- Every bare message row is `MSG_DECODE` of its packed message (R101; log entry 10). -/
theorem exec_message {i : Instr} {s : State} {m : Message} (h : packedMessage? s.config i = some m) :
    exec i s = .next (s.reply (.decoded (unpackMessage s.config (packMessage m.type m.index m.payload))) []) := by
  have hd : exec i s = .next (decodeRow i s) := by
    cases i <;> first
      | rfl
      | (simp [packedMessage?, messageRow?] at h)
  rw [hd]
  simp [decodeRow, h]

/-- Everything an instruction can do: it keeps what its updates and the recording of outputs keep. -/
theorem exec_keeps {i : Instr} {P : State → Prop} (k : Kept i P) {s t : State} (h : exec i s = .next t)
    (hs : P s) : P t := by
  cases hf : frameRow? i with
  | some r => rw [exec_row hf] at h; cases h; exact keeps_row k (isScan_frame hf) hs
  | none =>
    cases hm : packedMessage? s.config i with
    | some m => rw [exec_message hm] at h; cases h; exact k.reply _ _ _ hs
    | none =>
      cases i <;> first
        | (simp [frameRow?] at hf; done)
        | (simp [packedMessage?, messageRow?] at hm; done)
        | (cases h; exact k.reply _ _ _ hs)
        | skip
      case payloadFromInt n signed =>
        simp only [exec, execPayloadFromInt] at h
        split at h <;> cases h
        exact k.reply _ _ _ hs
      case rxAppend chunk =>
        cases h
        split_ifs with hr
        · exact k.reply _ _ _ (k.update _ _ hs (.append chunk (.inl rfl) hr))
        · exact k.reply _ _ _ hs
      case rxScan => cases h; exact keeps_scanStep k rfl hs
      case rxScanShort =>
        cases h
        split
        · exact keeps_outcome k rfl ‹_› hs
        · exact k.reply _ _ _ hs
      case rxScanDiscard =>
        cases h
        split
        · exact keeps_outcome k rfl ‹_› hs
        · exact k.reply _ _ _ hs
      case rxScanWait =>
        cases h
        split
        · exact keeps_outcome k rfl ‹_› hs
        · exact k.reply _ _ _ hs
      case rxScanEmit =>
        cases h
        split
        · exact keeps_outcome k rfl ‹_› hs
        · exact k.reply _ _ _ hs
      case rxScanResync =>
        cases h
        split
        · exact keeps_outcome k rfl ‹_› hs
        · exact k.reply _ _ _ hs
      case rxPass chunk => cases h; exact keeps_pass k hs
      case msgqPop =>
        cases h
        unfold popStep
        split
        · exact k.reply _ _ _ (k.update _ _ hs (.pop _ _ rfl ‹_›))
        · exact k.reply _ _ _ hs
      case txSend t j p =>
        simp only [exec, execTxSend] at h
        split at h <;> cases h
        · exact k.reply _ _ _ (k.update _ _ hs (.send t j p rfl ‹_›))
        · exact k.reply _ _ _ hs
      case txSendClosed t j p =>
        simp only [exec, execTxSendClosed] at h
        split at h <;> cases h <;> exact k.reply _ _ _ hs
      case linkOpen a =>
        simp only [exec, execLinkOpen] at h
        split at h <;> cases h
        · exact k.reply _ _ _ hs
        · exact k.reply _ _ _ hs
        · exact k.reply _ _ _ (k.update _ _ hs (.opens rfl ‹_›))
      case linkClose =>
        simp only [exec, execLinkClose] at h
        split at h <;> cases h
        · exact k.reply _ _ _ hs
        · exact k.reply _ _ _ hs
        · exact k.reply _ _ _ (k.update _ _ hs (.closes rfl ‹_› ‹_›))
      case reset => cases h; exact k.reply _ _ _ (k.update _ _ hs (.clears rfl))

end Sys2Proof.Machine
end

