-- ==== Sys2Proof/Laws/Ops.lean ====
section
/-! SUPPORT. For each shared operation, once, everything it can do: what it answers where it runs, and that it
holds elsewhere. Callers cite these and do not unfold the operation. -/

namespace Sys2Proof.Machine

open Sys2Proof.Config

/-- A queue below its capacity, or without one, has room (R150). -/
theorem room_iff {s : State} : s.room = true ↔ ∀ cap, s.msgqCap = some cap → s.msgq.length < cap := by
  unfold State.room
  cases s.msgqCap <;> simp

/-- A valid window is taken where there is room (R146). -/
theorem takeFrame_room {s : State} (h : s.room = true) (p : Nat) (w : Bytes7) :
    takeFrame p w s = ((s.pushMsg (messageOf (unpackMessage s.config (windowMessage w)))).dropHead (p + s.config.frameLen)).reply .none
      [.emit (messageOf (unpackMessage s.config (windowMessage w)))] := by
  simp [takeFrame, h]

/-- A full queue holds it (R150). -/
theorem takeFrame_full {s : State} (h : s.room = false) (p : Nat) (w : Bytes7) : takeFrame p w s = s.hold := by
  simp [takeFrame, h]

/-- A scan step does what its outcome says. -/
theorem scanStep_outcome {s : State} {o : ScanOutcome} (h : s.outcome? = some o) : scanStep s = applyOutcome o s := by
  simp [scanStep, h]

/-- Outside a pass a scan step holds (R142). -/
theorem scanStep_held {s : State} (h : s.inPass = false) : scanStep s = s.hold := by
  simp [scanStep, State.outcome?, h]

/-- A scan step reads no output of an earlier step (R214). -/
@[simp] theorem scanStep_reply (s : State) (r : Result) (ls : List Label) : scanStep (s.reply r ls) = scanStep s := by
  have ho : (s.reply r ls).outcome? = s.outcome? := rfl
  have hr : (s.reply r ls).room = s.room := rfl
  unfold scanStep
  rw [ho]
  split
  · rename_i o _
    cases o with
    | emit p w => simp only [applyOutcome, takeFrame, hr]; split <;> rfl
    | _ => rfl
  · rfl

/-- A scan step that is not held for room ends the pass, or goes on with a shorter buffer (R148). -/
theorem scanStep_turn {s : State} (hc : s.config.wf = true) (h : s.canScan = true) :
    (scanStep s).link = s.link ∧ (scanStep s).msgqCap = s.msgqCap ∧ (scanStep s).config = s.config ∧
    (scanStep s).result = .none ∧
    ((scanStep s).phase = .refill ∨
      ((scanStep s).phase = .scanning ∧ 7 ≤ s.rxbuf.length ∧ (scanStep s).rxbuf.length < s.rxbuf.length)) := by
  have h7 := frameLen_eq hc
  unfold State.canScan at h
  cases ho : s.outcome? with
  | none => simp [ho] at h
  | some o =>
    rw [scanStep_outcome ho]
    obtain ⟨-, hp, hs⟩ := outcome_eq_some.1 ho
    cases o with
    | short => simp [applyOutcome]
    | discard => simp [applyOutcome]
    | wait p => simp [applyOutcome]
    | emit p w =>
      have hl := windowAt_length (scan_emit.1 hs).2.1
      rw [ho] at h
      simp only [applyOutcome, takeFrame_room h]
      simp [hp]; omega
    | resync p w =>
      have hl := windowAt_length (scan_resync.1 hs).2.1
      simp [applyOutcome, rejectWindow, hp]; omega

/-- After the pass has ended the loop does nothing more. -/
theorem scanLoop_refill (n : Nat) {s : State} (h : s.phase = .refill) : scanLoop n s = s := by
  cases n with
  | zero => rfl
  | succ n =>
    have hc : s.canScan = false := by simp [State.canScan, State.outcome?, State.inPass, h]
    simp [scanLoop, hc]

/-- A pass holds where a refill does (R141, R148). -/
theorem passStep_held {s : State} (h : s.canRefill = false) (chunk : List Byte) : passStep chunk s = s.hold := by
  simp [passStep, h]

/-- A frame row at its own window does what the synchronizer does with it (log entry 9). -/
theorem receiveFrame_window {s : State} {p : Nat} {f : FrameFields} (h : s.window? = some (p, rowWindow s.config f)) :
    receiveFrame f s = if windowValid s.config (rowWindow s.config f) then takeFrame p (rowWindow s.config f) s
      else rejectWindow p (rowWindow s.config f) s := by
  simp [receiveFrame, h]

/-- Elsewhere it holds (log entry 9). -/
theorem receiveFrame_held {s : State} {f : FrameFields} (h : ∀ p, s.window? ≠ some (p, rowWindow s.config f)) :
    receiveFrame f s = s.hold := by
  unfold receiveFrame
  split
  · rename_i p w hq
    have e : w ≠ rowWindow s.config f := fun e => h p (e ▸ hq)
    simp [e]
  · rfl

/-- The oldest message is taken (R149). -/
theorem popStep_cons {s : State} {m : Message} {ms : List Message} (h : s.msgq = m :: ms) :
    popStep s = s.popMsg.reply (.message m) [] := by
  simp [popStep, h]

/-- An empty queue holds the consumer (R149). -/
theorem popStep_nil {s : State} (h : s.msgq = []) : popStep s = s.hold := by
  simp [popStep, h]

/-- When a frame row is enabled. -/
theorem enabled_frame {i : Instr} {s : State} {f : FrameFields} (h : frameFields? s.config i = some f) :
    enabled i s = frameEnabled f s := by
  have he : enabled i s = rowEnabled i s := by
    cases i <;> first
      | rfl
      | (simp [frameFields?, frameRow?] at h)
  rw [he]; simp [rowEnabled, h]

/-- A bare message row is always enabled. -/
theorem enabled_message {c : WireConfig} {i : Instr} {m : Message} (h : packedMessage? c i = some m) (s : State) :
    enabled i s = true := by
  cases i <;> first
    | rfl
    | (simp [packedMessage?, messageRow?] at h)

end Sys2Proof.Machine
end

