-- ==== Sys2Proof/Laws/Step.lean ====
section
/-! SUPPORT. Everything a step can do, said once, and the induction over steps. -/

namespace Sys2Proof.Machine

open Sys2Proof.Config

/-- A whole window that is no row of the table has a bad end marker, so its outcome is RESYNC (R69). -/
theorem window_undecoded {s : State} {p : Nat} {w : Bytes7} {e : DecodeError} (h : s.window? = some (p, w))
    (hd : decodeFrame s.config w = .error e) : s.outcome? = some (.resync p w) := by
  have ho := window_outcome h
  cases hv : windowValid s.config w with
  | false => simpa [hv] using ho
  | true =>
    obtain ⟨h0, h5, -⟩ := (windowValid_iff s.config w).1 hv
    rw [(decodeFrame_eq_ok s.config w _).2 ⟨h0, h5, rfl⟩] at hd
    cases hd

/-- Everything a step can do: a command of the inbox, an instruction of the synchronizer, the rejection of a
window that is no row, or nothing but outputs. -/
theorem step_cases {s t : State} (h : step s = .next t) :
    (∃ i rest, pick s [] s.inbox = some (i, rest) ∧ exec i { s with inbox := rest } = .next t) ∨
    (∃ i, exec i s = .next t) ∨
    (∃ p w, s.outcome? = some (.resync p w) ∧ t = rejectWindow p w s) ∨
    (∃ r, t = s.reply r []) := by
  unfold step at h
  split at h
  · exact .inl ⟨_, _, ‹_›, h⟩
  · split_ifs at h with hp he
    · unfold scanTurn at h
      split at h
      · split at h
        · exact .inr (.inl ⟨_, h⟩)
        · cases h
          exact .inr (.inr (.inl ⟨_, _, window_undecoded ‹_› ‹_›, rfl⟩))
      · exact .inr (.inl ⟨_, h⟩)
    · cases h; exact .inr (.inr (.inr ⟨_, rfl⟩))
    · cases h; exact .inr (.inr (.inr ⟨_, rfl⟩))

/-- The induction over steps: what the updates of every instruction, the recording of outputs and the taking of
inputs keep, every step keeps. -/
theorem step_keeps {P : State → Prop} (hin : ∀ s cs, P s → P { s with inbox := cs }) (k : ∀ i, Kept i P)
    {s t : State} (h : step s = .next t) (hs : P s) : P t := by
  rcases step_cases h with ⟨i, rest, -, h⟩ | ⟨i, h⟩ | ⟨p, w, ho, rfl⟩ | ⟨r, rfl⟩
  · exact exec_keeps (k i) h (hin _ _ hs)
  · exact exec_keeps (k i) h hs
  · exact (k .rxScan).reply _ _ _ ((k .rxScan).update _ _ hs (.reject p w rfl ho))
  · exact (k .rxScan).reply _ _ _ hs

/-- What `pick` does with its first command: it takes it where it is enabled and not held back, and looks further
elsewhere. -/
theorem pick_cons (s : State) (held : List Agent) (c : Command) (cs : List Command) :
    pick s held (c :: cs) =
      if (isReset (commandInstr s.config c) = true ∨ c.agent ∉ held) ∧ enabled (commandInstr s.config c) s = true then
        some (commandInstr s.config c, cs)
      else (pick s (c.agent :: held) cs).map fun q => (q.1, c :: q.2) := by
  simp [pick]

/-- A picked command was in the inbox and is enabled. -/
theorem pick_enabled {s : State} {held : List Agent} {cs rest : List Command} {i : Instr}
    (h : pick s held cs = some (i, rest)) : enabled i s = true ∧ ∃ c ∈ cs, commandInstr s.config c = i := by
  induction cs generalizing held rest with
  | nil => simp [pick] at h
  | cons c cs ih =>
    rw [pick_cons] at h
    split_ifs at h with hc
    · simp only [Option.some.injEq, Prod.mk.injEq] at h
      obtain ⟨rfl, rfl⟩ := h
      exact ⟨hc.2, c, by simp, rfl⟩
    · simp only [Option.map_eq_some_iff] at h
      obtain ⟨⟨j, r⟩, hq, he⟩ := h
      simp only [Prod.mk.injEq] at he
      obtain ⟨rfl, -⟩ := he
      obtain ⟨h1, d, hd, h2⟩ := ih hq
      exact ⟨h1, d, by simp [hd], h2⟩

end Sys2Proof.Machine
end

