-- ==== Sys2Proof/Tests/Slice0.lean ====
section
/-! SUPPORT. The model's own tests: ill-formed terms refused, words written out from the spec's encodings and
decoded, single steps on the spec's examples, and a witness for the hypotheses of every statement. Expected values
come from spec/ (95_test_vectors.md, the examples of the rules), never from the model. -/

namespace Sys2Proof.Tests

open Sys2Proof.Config Sys2Proof.Machine Sys2Proof.Safety

/-- The next state of an answer; none where it is a fault or a refusal. -/
def next? (a : Answer) : Option State :=
  match a with
  | .next s => some s
  | .fault _ | .refused _ => none

/-- An open link with the receiver at a phase and a buffer that was received whole. -/
def opened (phase : Phase) (buf : List Byte) : State :=
  { State.reset with link := .opened, phase := phase, rxbuf := buf, rxhist := buf }

/-- What an answer returned. -/
def returned (a : Answer) : Option Result := (next? a).map (·.result)

/-- The frame of `RESPONSE 0x07, 0x05DC` (95_test_vectors.md section 2.1). -/
def rpmFrame : List Byte := [0x3A, 0x07, 0x05, 0xDC, 0xDE, 0x3B, 0x0A]

/-- The same frame with a wrong checksum (R123, examples). -/
def badFrame : List Byte := [0x3A, 0x07, 0x04, 0xDC, 0xDE, 0x3B, 0x0A]

/-- A queue of capacity 1 that is full, with a valid frame in the buffer. -/
def fullQueue : State :=
  { opened .scanning rpmFrame with msgqCap := some 1, msgq := [⟨1, 0x01, 0x0000⟩], emitted := [⟨1, 0x01, 0x0000⟩] }

/-- Another record that keeps R8: other markers, and the codes of two types exchanged. -/
def other : WireConfig := { hw with start := 0x3C, endMarker := 0x3D, response := 3, readRequest := 0 }

/-- A `LINK_CLOSE` and a `RESET` of the controller, behind a valid frame that a full queue holds. -/
def resetBehindClose : State :=
  { fullQueue with inbox := [⟨.controller, .call .linkClose⟩, ⟨.controller, .call .reset⟩] }

/-! ### Well-formedness: one ill-formed term for each check -/

-- Checksum of a per-id row (R73): 0xDE is right for RESPONSE 0x07, 0x05DC.
theorem test_wf_checksum_of_id_row :
    (Instr.response07 0x05DC 0xDE 0x0A).wellFormed hw = true ∧ (Instr.response07 0x05DC 0xDF 0x0A).wellFormed hw = false ∧
    (Instr.status3F 0xFFFF 0x7F 0xFF).wellFormed hw = true ∧ (Instr.status3F 0xFFFF 0x7E 0xFF).wellFormed hw = false ∧
    (Instr.writeRequest0C 0x0001 0x8D 0x0A).wellFormed hw = true ∧
    (Instr.writeRequest0C 0x0001 0x0D 0x0A).wellFormed hw = false ∧
    (Instr.readRequest07 0x0000 0xC7 0x0A).wellFormed hw = true ∧
    (Instr.readRequest07 0x0001 0xC7 0x0A).wellFormed hw = false := by decide

-- Checksum and index of a per-type row (opcode_table.json "constraint").
theorem test_wf_type_row :
    (Instr.response 0x07 0x05DC 0xDE 0x0A).wellFormed hw = true ∧ (Instr.response 0x07 0x05DC 0xDD 0x0A).wellFormed hw = false ∧
    (Instr.response 0x11 0x0000 0x11 0x0A).wellFormed hw = false ∧ (Instr.status 0x03 0x1234 0x65 0x0A).wellFormed hw = false ∧
    (Instr.writeRequest 0x11 0x0000 0x91 0x0A).wellFormed hw = false ∧
    (Instr.readRequest 0x3F 0xFFFF 0xFF 0x0A).wellFormed hw = false := by decide

-- Index of a bare message row (section 2.3, the last known index of each enumeration and the next one).
theorem test_wf_message_row :
    (Instr.responseMsg 0x10 0x0000).wellFormed hw = true ∧ (Instr.responseMsg 0x11 0x0000).wellFormed hw = false ∧
    (Instr.statusMsg 0x3F 0x0000).wellFormed hw = true ∧ (Instr.statusMsg 0x16 0x0000).wellFormed hw = false ∧
    (Instr.writeRequestMsg 0x11 0x0000).wellFormed hw = false ∧ (Instr.readRequestMsg 0x15 0x0000).wellFormed hw = false := by
  decide

-- Domain of PAYLOAD_FROM_INT (section 2.4).
theorem test_wf_conversion :
    (Instr.payloadFromInt (-32768) true).wellFormed hw = true ∧ (Instr.payloadFromInt (-32769) true).wellFormed hw = false ∧
    (Instr.payloadFromInt 32768 true).wellFormed hw = false ∧ (Instr.payloadFromInt 65535 false).wellFormed hw = true ∧
    (Instr.payloadFromInt 65536 false).wellFormed hw = false ∧ (Instr.payloadFromInt (-1) false).wellFormed hw = false := by
  decide

-- The record of R8: four distinct codes, `FRAME_LEN = 1 + MSG_LEN + 3`.
theorem test_wf_config :
    hw.wf = true ∧ other.wf = true ∧ ({ hw with status := 0 }).wf = false ∧ ({ hw with frameLen := 8 }).wf = false ∧
    ({ hw with msgLen := 4, frameLen := 8 }).wf = false := by decide

/-! ### Decoding: a word of every row that has an encoding, written out from R61 to R67 -/

-- `RESPONSE`, payload 0x1234: `3A id 12 34 (id^12^34) 3B 0A`.
theorem test_decode_response_low :
    [0x3A001234263B0A, 0x3A011234273B0A, 0x3A021234243B0A, 0x3A031234253B0A, 0x3A041234223B0A,
     0x3A051234233B0A, 0x3A061234203B0A, 0x3A071234213B0A, 0x3A0812342E3B0A].map (decodeTableWord 56) =
    [some (.response00 0x1234 0x26 0x0A), some (.response01 0x1234 0x27 0x0A),
     some (.response02 0x1234 0x24 0x0A), some (.response03 0x1234 0x25 0x0A),
     some (.response04 0x1234 0x22 0x0A), some (.response05 0x1234 0x23 0x0A),
     some (.response06 0x1234 0x20 0x0A), some (.response07 0x1234 0x21 0x0A),
     some (.response08 0x1234 0x2E 0x0A)] := by decide

-- `RESPONSE`, payload 0x1234: `3A id 12 34 (id^12^34) 3B 0A`.
theorem test_decode_response_high :
    [0x3A0912342F3B0A, 0x3A0A12342C3B0A, 0x3A0B12342D3B0A, 0x3A0C12342A3B0A, 0x3A0D12342B3B0A,
     0x3A0E1234283B0A, 0x3A0F1234293B0A, 0x3A101234363B0A].map (decodeTableWord 56) =
    [some (.response09 0x1234 0x2F 0x0A), some (.response0A 0x1234 0x2C 0x0A),
     some (.response0B 0x1234 0x2D 0x0A), some (.response0C 0x1234 0x2A 0x0A),
     some (.response0D 0x1234 0x2B 0x0A), some (.response0E 0x1234 0x28 0x0A),
     some (.response0F 0x1234 0x29 0x0A), some (.response10 0x1234 0x36 0x0A)] := by decide

-- `STATUS`, payload 0x1234: `3A id 12 34 (id^12^34) 3B 0A`.
theorem test_decode_status_low :
    [0x3A401234663B0A, 0x3A411234673B0A, 0x3A421234643B0A, 0x3A501234763B0A, 0x3A511234773B0A, 0x3A521234743B0A].map (decodeTableWord 56) =
    [some (.status00 0x1234 0x66 0x0A), some (.status01 0x1234 0x67 0x0A), some (.status02 0x1234 0x64 0x0A),
     some (.status10 0x1234 0x76 0x0A), some (.status11 0x1234 0x77 0x0A), some (.status12 0x1234 0x74 0x0A)] := by decide

-- `STATUS`, payload 0x1234: `3A id 12 34 (id^12^34) 3B 0A`.
theorem test_decode_status_high :
    [0x3A531234753B0A, 0x3A541234723B0A, 0x3A551234733B0A, 0x3A7E1234583B0A, 0x3A7F1234593B0A].map (decodeTableWord 56) =
    [some (.status13 0x1234 0x75 0x0A), some (.status14 0x1234 0x72 0x0A), some (.status15 0x1234 0x73 0x0A),
     some (.status3E 0x1234 0x58 0x0A), some (.status3F 0x1234 0x59 0x0A)] := by decide

-- `WRITE_REQUEST`, payload 0x1234: `3A id 12 34 (id^12^34) 3B 0A`.
theorem test_decode_writeRequest_low :
    [0x3A801234A63B0A, 0x3A811234A73B0A, 0x3A821234A43B0A, 0x3A831234A53B0A, 0x3A841234A23B0A,
     0x3A851234A33B0A, 0x3A861234A03B0A, 0x3A871234A13B0A, 0x3A881234AE3B0A].map (decodeTableWord 56) =
    [some (.writeRequest00 0x1234 0xA6 0x0A), some (.writeRequest01 0x1234 0xA7 0x0A),
     some (.writeRequest02 0x1234 0xA4 0x0A), some (.writeRequest03 0x1234 0xA5 0x0A),
     some (.writeRequest04 0x1234 0xA2 0x0A), some (.writeRequest05 0x1234 0xA3 0x0A),
     some (.writeRequest06 0x1234 0xA0 0x0A), some (.writeRequest07 0x1234 0xA1 0x0A),
     some (.writeRequest08 0x1234 0xAE 0x0A)] := by decide

-- `WRITE_REQUEST`, payload 0x1234: `3A id 12 34 (id^12^34) 3B 0A`.
theorem test_decode_writeRequest_high :
    [0x3A891234AF3B0A, 0x3A8A1234AC3B0A, 0x3A8B1234AD3B0A, 0x3A8C1234AA3B0A, 0x3A8D1234AB3B0A,
     0x3A8E1234A83B0A, 0x3A8F1234A93B0A, 0x3A901234B63B0A].map (decodeTableWord 56) =
    [some (.writeRequest09 0x1234 0xAF 0x0A), some (.writeRequest0A 0x1234 0xAC 0x0A),
     some (.writeRequest0B 0x1234 0xAD 0x0A), some (.writeRequest0C 0x1234 0xAA 0x0A),
     some (.writeRequest0D 0x1234 0xAB 0x0A), some (.writeRequest0E 0x1234 0xA8 0x0A),
     some (.writeRequest0F 0x1234 0xA9 0x0A), some (.writeRequest10 0x1234 0xB6 0x0A)] := by decide

-- `READ_REQUEST`, payload 0x1234: `3A id 12 34 (id^12^34) 3B 0A`.
theorem test_decode_readRequest_low :
    [0x3AC01234E63B0A, 0x3AC11234E73B0A, 0x3AC21234E43B0A, 0x3AC31234E53B0A, 0x3AC41234E23B0A,
     0x3AC51234E33B0A, 0x3AC61234E03B0A, 0x3AC71234E13B0A, 0x3AC81234EE3B0A].map (decodeTableWord 56) =
    [some (.readRequest00 0x1234 0xE6 0x0A), some (.readRequest01 0x1234 0xE7 0x0A),
     some (.readRequest02 0x1234 0xE4 0x0A), some (.readRequest03 0x1234 0xE5 0x0A),
     some (.readRequest04 0x1234 0xE2 0x0A), some (.readRequest05 0x1234 0xE3 0x0A),
     some (.readRequest06 0x1234 0xE0 0x0A), some (.readRequest07 0x1234 0xE1 0x0A),
     some (.readRequest08 0x1234 0xEE 0x0A)] := by decide

-- `READ_REQUEST`, payload 0x1234: `3A id 12 34 (id^12^34) 3B 0A`.
theorem test_decode_readRequest_high :
    [0x3AC91234EF3B0A, 0x3ACA1234EC3B0A, 0x3ACB1234ED3B0A, 0x3ACC1234EA3B0A, 0x3ACD1234EB3B0A,
     0x3ACE1234E83B0A, 0x3ACF1234E93B0A, 0x3AD01234F63B0A].map (decodeTableWord 56) =
    [some (.readRequest09 0x1234 0xEF 0x0A), some (.readRequest0A 0x1234 0xEC 0x0A),
     some (.readRequest0B 0x1234 0xED 0x0A), some (.readRequest0C 0x1234 0xEA 0x0A),
     some (.readRequest0D 0x1234 0xEB 0x0A), some (.readRequest0E 0x1234 0xE8 0x0A),
     some (.readRequest0F 0x1234 0xE9 0x0A), some (.readRequest10 0x1234 0xF6 0x0A)] := by decide

-- The rows of R66: an id byte that is not legal (R68) is read by its type. `3A (t<<6|i) 12 34 cks 3B FF`.
theorem test_decode_type_rows :
    [0x3A111234373BFF, 0x3A431234653BFF, 0x3ABF1234993BFF, 0x3AD11234F73BFF].map (decodeTableWord 56) =
    [some (.response 0x11 0x1234 0x37 0xFF), some (.status 0x03 0x1234 0x65 0xFF),
     some (.writeRequest 0x3F 0x1234 0x99 0xFF), some (.readRequest 0x11 0x1234 0xF7 0xFF)] := by decide

-- `MSG24` words (R61; 95_test_vectors.md section 2.2).
theorem test_decode_message_rows :
    [0x108000, 0x7E002A, 0x903A3A, 0xC70000, 0xFFFFFF].map (decodeTableWord 24) =
    [some (.responseMsg 0x10 0x8000), some (.statusMsg 0x3E 0x002A), some (.writeRequestMsg 0x10 0x3A3A),
     some (.readRequestMsg 0x07 0x0000), some (.readRequestMsg 0x3F 0xFFFF)] := by decide

-- Windows without their markers are no row (R69), and there are no other lengths (R72).
theorem test_decode_refuses :
    decode hw [0x3B, 0x07, 0x05, 0xDC, 0xDE, 0x3B, 0x0A] = .error .badStart ∧
    decode hw [0x3A, 0x3A, 0xC7, 0x00, 0x00, 0xC7, 0x3B] = .error .badEnd ∧
    decode hw [] = .error .noSuchFormat ∧ decode hw (rpmFrame ++ [0x00]) = .error .noSuchFormat ∧
    decodeTableWord 64 0x3A0705DCDE3B0A = none := by decide

-- The 56-bit word of a window has byte 0 on top (R62, R73).
theorem test_windowWord : windowWord ⟨0x3A, 0xC7, 0x12, 0x34, 0xE1, 0x3B, 0x0A⟩ = 0x3AC71234E13B0A := by decide

-- Mask and match of a per-id row and of a per-type row (opcode_table.json, `READ_REQUEST 0x07` and `READ_REQUEST`).
theorem test_rowMatch :
    rowMask? (.readRequest07 0 0 0) = some 0xFFFF000000FF00 ∧ rowMatch? hw (.readRequest07 0 0 0) = some 0x3AC70000003B00 ∧
    rowMask? (.readRequest 0x07 0 0 0) = some 0xFFC0000000FF00 ∧
    rowMatch? hw (.readRequest 0x07 0 0 0) = some 0x3AC00000003B00 := by decide

-- Operations have no encoding (R76); rows have theirs.
theorem test_encode :
    encode hw (.rxAppend [0x3A]) = none ∧ encode hw (.response07 0x05DC 0xDE 0x0A) = some rpmFrame ∧
    encode hw (.statusMsg 0x3E 0x002A) = some [0x7E, 0x00, 0x2A] := by decide

/-! ### Codecs: the spec's vectors (95_test_vectors.md section 2) -/

theorem test_msgEncode :
    returned (exec (.msgEncode 3 0x07 0x0000) State.reset) = some (.bytes [0xC7, 0x00, 0x00]) ∧
    returned (exec (.msgEncode 3 0x3F 0xFFFF) State.reset) = some (.bytes [0xFF, 0xFF, 0xFF]) := by decide

theorem test_msgDecode :
    returned (exec (.msgDecode ⟨0x40, 0xFF, 0xFE⟩) State.reset) = some (.decoded ⟨1, 0x00, 0xFFFE, true⟩) ∧
    returned (exec (.msgDecode ⟨0x3A, 0x00, 0x00⟩) State.reset) = some (.decoded ⟨0, 0x3A, 0x0000, false⟩) := by decide

theorem test_indexKnown :
    returned (exec (.indexKnown 1 0x0F) State.reset) = some (.truth false) ∧
    returned (exec (.indexKnown 3 0x10) State.reset) = some (.truth true) := by decide

theorem test_payload_readings :
    returned (exec (.payloadU 0xF18C) State.reset) = some (.natural 61836) ∧
    returned (exec (.payloadS 0xF18C) State.reset) = some (.integer (-3700)) ∧
    returned (exec (.payloadS 0x7FFF) State.reset) = some (.integer 32767) := by decide

theorem test_payloadFromInt :
    returned (exec (.payloadFromInt (-3700) true) State.reset) = some (.payload 0xF18C) ∧
    returned (exec (.payloadFromInt 65535 false) State.reset) = some (.payload 0xFFFF) ∧
    exec (.payloadFromInt 32768 true) State.reset = .refused (.payloadOutOfRange 32768 true) :=
  ⟨by decide, by decide, rfl⟩

theorem test_xor8 : returned (exec (.xor8 ⟨0x01, 0xF1, 0x8C⟩) State.reset) = some (.byte 0x7C) := by decide

theorem test_frameEncode :
    returned (exec (.frameEncode ⟨0x55, 0x80, 0x00⟩) State.reset) =
      some (.bytes [0x3A, 0x55, 0x80, 0x00, 0xD5, 0x3B, 0x0A]) := by decide

theorem test_frameDecode :
    returned (exec (.frameDecode ⟨0x3A, 0x07, 0x05, 0xDC, 0xDE, 0x3B, 0x0A⟩) State.reset) =
      some (.frame ⟨0x3A, ⟨0x07, 0x05, 0xDC⟩, 0xDE, 0x3B, 0x0A, ⟨0, 0x07, 0x05DC, true⟩⟩) := by decide

theorem test_frameStatus :
    returned (exec (.frameStatus ⟨0x3A, 0x07, 0x04, 0xDC, 0xDE, 0x3B, 0x0A⟩) State.reset) =
      some (.flags ⟨true, true, false, true⟩) ∧
    returned (exec (.frameStatus ⟨0x3A, 0x3A, 0xC7, 0x00, 0x00, 0xC7, 0x3B⟩) State.reset) =
      some (.flags ⟨true, false, false, false⟩) := by decide

theorem test_frameIsvalid :
    returned (exec (.frameIsvalid ⟨0x3A, 0xC7, 0x00, 0x00, 0xC7, 0x3B, 0xFF⟩) State.reset) = some (.truth true) ∧
    returned (exec (.frameIsvalid ⟨0x3A, 0x11, 0x00, 0x00, 0x11, 0x3B, 0x0A⟩) State.reset) = some (.truth false) := by
  decide

/-! ### Synchronizer: the examples of R141 to R149 -/

theorem test_rxAppend :
    (next? (exec (.rxAppend [0x01, 0x8D]) (opened .refill [0x3A, 0x8C, 0x00]))).map (fun t => (t.rxbuf, t.phase)) =
      some ([0x3A, 0x8C, 0x00, 0x01, 0x8D], .scanning) := by decide

theorem test_rxScan_short :
    (next? (exec .rxScan (opened .scanning [0x00, 0x11]))).map (fun t => (t.rxbuf, t.phase)) =
      some ([0x00, 0x11], .refill) := by decide

theorem test_rxScan_discard :
    (next? (exec .rxScanDiscard (opened .scanning [0x01, 0x02, 0x03, 0x04, 0x05, 0x06, 0x07]))).map
      (fun t => (t.rxbuf, t.phase, t.consumed, t.labels)) = some ([], .refill, 7, [.discardNoMarker 7]) := by decide

theorem test_rxScan_wait :
    (next? (exec .rxScanWait (opened .scanning [9, 9, 9, 9, 9, 9, 9, 9, 9, 9, 0x3A, 0xC7, 0x00, 0x00]))).map
      (fun t => (t.rxbuf.length, t.phase)) = some (14, .refill) := by decide

theorem test_rxScan_emit :
    (next? (exec .rxScanEmit (opened .scanning [0x55, 0x3A, 0xC7, 0x00, 0x00, 0xC7, 0x3B, 0x0A]))).map
      (fun t => (t.rxbuf, t.phase, t.msgq)) = some ([], .scanning, [⟨3, 0x07, 0x0000⟩]) := by decide

theorem test_rxScan_resync :
    (next? (exec .rxScanResync (opened .scanning [0x3A, 0x3A, 0xC7, 0x00, 0x00, 0xC7, 0x3B, 0x0A]))).map
      (fun t => (t.rxbuf, t.labels)) =
    some ([0x3A, 0xC7, 0x00, 0x00, 0xC7, 0x3B, 0x0A], [.rejectBadFrame false false false]) := by decide

-- An outcome row holds where another outcome applies (log entry 11).
theorem test_outcome_rows_hold :
    returned (exec .rxScanShort (opened .scanning rpmFrame)) = some .hold ∧
    returned (exec .rxScanEmit (opened .scanning badFrame)) = some .hold ∧
    returned (exec .rxScan (opened .refill rpmFrame)) = some .hold := by decide

-- R148, the example: RESYNC, EMIT at p = 6, SHORT.
theorem test_rxPass :
    (next? (exec (.rxPass (badFrame ++ [0x3A, 0x01, 0xF1, 0x8C, 0x7C, 0x3B, 0x0A])) (opened .refill []))).map
      (fun t => (t.rxbuf, t.phase, t.msgq, t.labels)) =
    some ([], .refill, [⟨0, 0x01, 0xF18C⟩], [.rejectBadFrame true false true, .emit ⟨0, 0x01, 0xF18C⟩]) := by decide

theorem test_msgqPop :
    (next? (exec .msgqPop { State.reset with msgq := [⟨0, 0x01, 0xF18C⟩, ⟨1, 0x01, 0x0000⟩] })).map
      (fun t => (t.msgq, t.result)) = some ([⟨1, 0x01, 0x0000⟩], .message ⟨0, 0x01, 0xF18C⟩) := by decide

-- R150: a full queue holds the EMIT, not a RESYNC.
theorem test_full_queue :
    next? (exec .rxScan fullQueue) = some { fullQueue with result := .hold } ∧
    returned (exec .rxScan { fullQueue with rxbuf := badFrame }) = some .none := by decide

/-! ### Transmit path and link: the examples of R170 to R174 -/

theorem test_txSend :
    (next? (exec (.txSend 2 0x0C 0x0001) (opened .refill []))).map (fun t => (t.txstream, t.result)) =
      some ([0x3A, 0x8C, 0x00, 0x01, 0x8D, 0x3B, 0x0A], .success) := by decide

theorem test_txSend_closed :
    (next? (exec (.txSend 3 0x07 0x0000) State.reset)).map (fun t => (t.txstream, t.result, t.labels)) =
      some ([], .failure, [.failLinkClosed]) ∧
    (next? (exec (.txSendClosed 3 0x07 0x0000) State.reset)).map (fun t => (t.txstream, t.result)) =
      some ([], .failure) := by decide

theorem test_linkOpen :
    (next? (exec (.linkOpen true) State.reset)).map (fun t => (t.link, t.result)) = some (.opened, .success) ∧
    (next? (exec (.linkOpen false) State.reset)).map (fun t => (t.link, t.labels)) =
      some (.closed, [.failOpenRefused]) := by decide

theorem test_linkClose :
    (next? (exec .linkClose (opened .refill [0x3A]))).map (fun t => (t.link, t.rxbuf, t.result)) =
      some (.closed, [], .success) ∧
    returned (exec .linkClose (opened .scanning [0x3A])) = some .hold := by decide

theorem test_reset : next? (exec .reset fullQueue) = some { State.reset with msgqCap := some 1 } := by decide

/-! ### Wire messages: a step on a fetched word (R185 to R188, examples) -/

-- A valid frame of each type is emitted as the first instruction after reset.
theorem test_step_frames :
    [0x3A0705DCDE3B0A, 0x3A410000413B0A, 0x3A8C00018D3B0A, 0x3AC70000C73BFF].map
      (fun w => (next? (step (State.reset.withFetchWord 56 w))).map fun t => (t.msgq, t.rxbuf)) =
    [some ([⟨0, 0x07, 0x05DC⟩], []), some ([⟨1, 0x01, 0x0000⟩], []), some ([⟨2, 0x0C, 0x0001⟩], []),
     some ([⟨3, 0x07, 0x0000⟩], [])] := by decide

-- An unknown index is rejected with flags (1,1,1,0), one byte past the marker (section 2.1; R204).
theorem test_step_unknown_index :
    [0x3A110000113B0A, 0x3A431234653B0A, 0x3A910000913B0A, 0x3AFFFFFFFF3B0A].map
      (fun w => (next? (step (State.reset.withFetchWord 56 w))).map fun t => (t.msgq, t.rxbuf.length, t.labels)) =
    [some ([], 6, [.rejectBadFrame true true false]), some ([], 6, [.rejectBadFrame true true false]),
     some ([], 6, [.rejectBadFrame true true false]), some ([], 6, [.rejectBadFrame true true false])] := by decide

-- A packed message as the first instruction after reset (section 2.2).
theorem test_step_messages :
    [0x108000, 0x431234, 0x903A3A, 0xD10000].map
      (fun w => (next? (step (State.reset.withFetchWord 24 w))).map fun t => (t.result, t.inbox)) =
    [some (.decoded ⟨0, 0x10, 0x8000, true⟩, []), some (.decoded ⟨1, 0x03, 0x1234, false⟩, []),
     some (.decoded ⟨2, 0x10, 0x3A3A, true⟩, []), some (.decoded ⟨3, 0x11, 0x0000, false⟩, [])] := by decide

-- A held command of one agent does not hold another agent's (log entries 1, 3).
theorem test_step_passes_over_held_command :
    (next? (step { State.reset with inbox := [⟨.consumer, .call .msgqPop⟩, ⟨.controller, .call (.linkOpen true)⟩] })).map
      (fun t => (t.link, t.inbox)) = some (.opened, [⟨.consumer, .call .msgqPop⟩]) := by decide

-- `RESET` is taken behind a held command of its own agent (R174 "Enabled: always"; R239).
theorem test_step_reset_behind_held_close :
    step resetBehindClose =
      .next { State.reset with msgqCap := some 1, inbox := [⟨.controller, .call .linkClose⟩] } := rfl

-- The machine follows the record it holds (R8): 3C C7 05 DC (C7^05^DC) 3D 0A is a `RESPONSE` of the other record.
theorem test_step_other_record :
    (next? (step { opened .scanning [0x3C, 0xC7, 0x05, 0xDC, 0x1E, 0x3D, 0x0A] with config := other })).map
      (fun t => (t.msgq, t.rxbuf)) = some ([⟨3, 0x07, 0x05DC⟩], []) ∧
    (next? (exec (.txSend 3 0x07 0x05DC) { opened .refill [] with config := other })).map (·.txstream) =
      some [0x3C, 0xC7, 0x05, 0xDC, 0x1E, 0x3D, 0x0A] ∧
    (next? (exec .rxScan { opened .scanning rpmFrame with config := other })).map (·.labels) =
      some [.discardNoMarker 7] ∧
    encode other (.response07 0x05DC 0x1E 0x0A) = some [0x3C, 0xC7, 0x05, 0xDC, 0x1E, 0x3D, 0x0A] := by decide

-- With nothing to do no step is taken (R231).
theorem test_step_idle : next? (step State.reset) = some State.reset := by decide

/-! ### Witnesses: values that meet the hypotheses of the statements, clause by clause -/

theorem witness_DecodeReadsEveryEncodedRow :
    encode hw (.response07 0x05DC 0xDE 0x0A) = some rpmFrame ∧ secondSpelling (.response07 0x05DC 0xDE 0x0A) = false ∧
    encode hw (.status 0x03 0x1234 0x65 0x0A) = some [0x3A, 0x43, 0x12, 0x34, 0x65, 0x3B, 0x0A] ∧
    secondSpelling (.status 0x03 0x1234 0x65 0x0A) = false ∧ hw.wf = true := by decide

theorem witness_EncodeGivesBackDecodedBytes : decode hw rpmFrame = .ok (.response07 0x05DC 0xDE 0x0A) := by decide

theorem witness_SecondSpellingMeansTheSame :
    encode hw (.response 0x07 0x05DC 0xDE 0x0A) = some rpmFrame ∧ decode hw rpmFrame = .ok (.response07 0x05DC 0xDE 0x0A) := by
  decide

theorem witness_DecodedFramesMatchTheTable :
    decodeFrame hw ⟨0x3A, 0x07, 0x05, 0xDC, 0xDE, 0x3B, 0x0A⟩ = .ok (.response07 0x05DC 0xDE 0x0A) ∧
    rowMask? (.response07 0x05DC 0xDE 0x0A) = some 0xFFFF000000FF00 ∧
    rowMatch? hw (.response07 0x05DC 0xDE 0x0A) = some 0x3A070000003B00 ∧
    windowWord ⟨0x3A, 0x07, 0x05, 0xDC, 0xDE, 0x3B, 0x0A⟩ &&& 0xFFFF000000FF00 = 0x3A070000003B00 := by decide

theorem witness_WellFormedFramesAreValidWindows :
    frameFields? hw (.response07 0x05DC 0xDE 0x0A) = some ⟨0x07, 0x05DC, 0xDE, 0x0A⟩ := by decide

-- The ends of both ranges, and the first number outside each.
theorem witness_PayloadFromIntInvertsTheReadings :
    (-32768 : Int) ≤ -32768 ∧ (-32768 : Int) ≤ 32767 ∧ (-32768 : Int) ≤ 32767 ∧ (32767 : Int) ≤ 32767 ∧
    (0 : Int) ≤ 0 ∧ (65535 : Int) ≤ 65535 ∧ (-32769 : Int) < -32768 ∧ (32767 : Int) < 32768 ∧ (-1 : Int) < 0 ∧
    (65535 : Int) < 65536 := by decide

theorem witness_PayloadSReadsTwosComplement :
    (0x7FFF : Payload).getLsbD 15 = false ∧ (0x8000 : Payload).getLsbD 15 = true := by decide

-- The cases of a flipped bit at the ends of their ranges.
theorem witness_SingleBitErrors :
    ((0 : Fin 7) = 0) ∧ ((5 : Fin 7) = 5) ∧ ((1 : Fin 7) ≤ 1 ∧ (1 : Fin 7) ≤ 4) ∧ ((1 : Fin 7) ≤ 4 ∧ (4 : Fin 7) ≤ 4) ∧
    ((6 : Fin 7) = 6) ∧ ((5 : Fin 7) ≠ 6) := by decide

-- R127, the example: the error is not detected.
theorem witness_UndetectedErrorsAreTheEvenOnes :
    windowValid hw ⟨0x3A, 0x07, 0x05, 0xDC, 0xDE, 0x3B, 0x0A⟩ = true ∧
    windowValid hw (withError ⟨0x3A, 0x07, 0x05, 0xDC, 0xDE, 0x3B, 0x0A⟩ ⟨0, 0, 0x10, 0x10, 0, 0, 0⟩) = true := by decide

theorem witness_CausesNameTheFailingConditions :
    (opened .scanning badFrame).window? = some (0, ⟨0x3A, 0x07, 0x04, 0xDC, 0xDE, 0x3B, 0x0A⟩) := by decide

/-- The hypotheses of the emission clause of the four wire message statements, on one buffer. -/
def canEmit (row : Payload → Byte → Byte → Instr) (type : TypeCode) (index : Index) (payload : Payload)
    (id cks term : Byte) : Bool :=
  let hi := payload.extractLsb' 8 8
  let lo := payload.extractLsb' 0 8
  let s := opened .scanning [0x00, 0x3A, id, hi, lo, cks, 0x3B, term]
  isKnownIndex s.config type index && id == ((type.setWidth 8 <<< 6) ||| index.setWidth 8) && cks == id ^^^ hi ^^^ lo &&
  encode hw (row payload cks term) == some [0x3A, id, hi, lo, cks, 0x3B, term] && s.link == .opened &&
  s.phase == .scanning && firstIndex 0x3A s.rxbuf == some 1 &&
  windowAt hw s.rxbuf 1 == some ⟨0x3A, id, hi, lo, cks, 0x3B, term⟩ && s.msgqCap == none

-- The first and the last row of each type, a per-type row, and the first index outside the enumeration.
theorem witness_ResponseFramesAreEmittedAndSent :
    (0x00, Instr.response00) ∈ responseRows ∧ (0x10, Instr.response10) ∈ responseRows ∧
    isKnownIndex hw hw.response 0x10 = true ∧ isKnownIndex hw hw.response 0x11 = false ∧
    canEmit Instr.response00 0 0x00 0x0000 0x00 0x00 0x0A = true ∧
    canEmit Instr.response10 0 0x10 0x8000 0x10 0x90 0xFF = true ∧
    canEmit (Instr.response 0x10) 0 0x10 0x8000 0x10 0x90 0xFF = true :=
  ⟨by simp [responseRows], by simp [responseRows], by decide, by decide, by decide, by decide, by decide⟩

theorem witness_StatusFramesAreEmittedAndSent :
    (0x00, Instr.status00) ∈ statusRows ∧ (0x3F, Instr.status3F) ∈ statusRows ∧
    isKnownIndex hw hw.status 0x3F = true ∧ isKnownIndex hw hw.status 0x03 = false ∧
    canEmit Instr.status00 1 0x00 0xFFFE 0x40 0x41 0x0A = true ∧
    canEmit Instr.status3F 1 0x3F 0xFFFF 0x7F 0x7F 0x0A = true ∧
    canEmit (Instr.status 0x3F) 1 0x3F 0xFFFF 0x7F 0x7F 0x0A = true :=
  ⟨by simp [statusRows], by simp [statusRows], by decide, by decide, by decide, by decide, by decide⟩

theorem witness_WriteRequestFramesAreEmittedAndSent :
    (0x00, Instr.writeRequest00) ∈ writeRequestRows ∧ (0x10, Instr.writeRequest10) ∈ writeRequestRows ∧
    isKnownIndex hw hw.writeRequest 0x10 = true ∧ isKnownIndex hw hw.writeRequest 0x11 = false ∧
    canEmit Instr.writeRequest00 2 0x00 0x0000 0x80 0x80 0x0A = true ∧
    canEmit Instr.writeRequest10 2 0x10 0x3A3A 0x90 0x90 0x0A = true ∧
    canEmit (Instr.writeRequest 0x10) 2 0x10 0x3A3A 0x90 0x90 0x0A = true :=
  ⟨by simp [writeRequestRows], by simp [writeRequestRows], by decide, by decide, by decide, by decide, by decide⟩

theorem witness_ReadRequestFramesAreEmittedAndSent :
    (0x00, Instr.readRequest00) ∈ readRequestRows ∧ (0x10, Instr.readRequest10) ∈ readRequestRows ∧
    isKnownIndex hw hw.readRequest 0x10 = true ∧ isKnownIndex hw hw.readRequest 0x11 = false ∧
    canEmit Instr.readRequest00 3 0x00 0x0000 0xC0 0xC0 0x0A = true ∧
    canEmit Instr.readRequest10 3 0x10 0xFFFF 0xD0 0xD0 0x0A = true ∧
    canEmit (Instr.readRequest 0x10) 3 0x10 0xFFFF 0xD0 0xD0 0x0A = true :=
  ⟨by simp [readRequestRows], by simp [readRequestRows], by decide, by decide, by decide, by decide, by decide⟩

theorem witness_InvalidFrameRowsAreRejected :
    frameFields? hw (.response07 0x04DC 0xDE 0x0A) = some ⟨0x07, 0x04DC, 0xDE, 0x0A⟩ ∧
    firstIndex 0x3A (opened .scanning badFrame).rxbuf = some 0 ∧
    windowAt hw (opened .scanning badFrame).rxbuf 0 = some (rowWindow hw ⟨0x07, 0x04DC, 0xDE, 0x0A⟩) ∧
    windowValid hw (rowWindow hw ⟨0x07, 0x04DC, 0xDE, 0x0A⟩) = false := by decide

theorem witness_RxAppendAppendsTheChunk : (opened .refill []).link = .opened ∧ (opened .refill []).phase = .refill := by
  decide

theorem witness_RxScanTakesTheOneOutcomeThatApplies :
    (opened .scanning []).link = .opened ∧ (opened .scanning []).phase = .scanning := by decide

-- Six bytes, the longest buffer of SHORT.
theorem witness_RxScanShortEndsThePass : (opened .scanning [0x3A, 0, 0, 0, 0, 0]).rxbuf.length < 7 := by decide

-- Seven bytes, the shortest buffer of DISCARD.
theorem witness_RxScanDiscardEmptiesTheBuffer :
    7 ≤ (opened .scanning [0, 0, 0, 0, 0, 0, 0]).rxbuf.length ∧
    0x3A ∉ (opened .scanning [0, 0, 0, 0, 0, 0, 0]).rxbuf := by decide

-- A marker with six bytes left, one short of a window.
theorem witness_RxScanWaitKeepsTheBuffer :
    firstIndex 0x3A (opened .scanning [0, 0x3A, 0, 0, 0, 0, 0]).rxbuf = some 1 ∧
    7 ≤ (opened .scanning [0, 0x3A, 0, 0, 0, 0, 0]).rxbuf.length ∧
    (opened .scanning [0, 0x3A, 0, 0, 0, 0, 0]).rxbuf.length - 1 < 7 := by decide

-- A window that just fits, with the queue unbounded.
theorem witness_RxScanEmitTakesTheWindow :
    firstIndex 0x3A (opened .scanning rpmFrame).rxbuf = some 0 ∧
    windowAt hw (opened .scanning rpmFrame).rxbuf 0 = some ⟨0x3A, 0x07, 0x05, 0xDC, 0xDE, 0x3B, 0x0A⟩ ∧
    windowValid hw ⟨0x3A, 0x07, 0x05, 0xDC, 0xDE, 0x3B, 0x0A⟩ = true ∧ (opened .scanning rpmFrame).msgqCap = none := by
  decide

theorem witness_RxScanResyncDropsThroughTheMarker :
    firstIndex 0x3A (opened .scanning badFrame).rxbuf = some 0 ∧
    windowAt hw (opened .scanning badFrame).rxbuf 0 = some ⟨0x3A, 0x07, 0x04, 0xDC, 0xDE, 0x3B, 0x0A⟩ ∧
    windowValid hw ⟨0x3A, 0x07, 0x04, 0xDC, 0xDE, 0x3B, 0x0A⟩ = false := by decide

-- The first clause at capacity 1; the second at an unbounded queue, and at a full queue with an invalid window.
theorem witness_FullQueueHoldsTheEmit :
    fullQueue.link = .opened ∧ fullQueue.phase = .scanning ∧ firstIndex 0x3A fullQueue.rxbuf = some 0 ∧
    windowAt hw fullQueue.rxbuf 0 = some ⟨0x3A, 0x07, 0x05, 0xDC, 0xDE, 0x3B, 0x0A⟩ ∧
    windowValid hw ⟨0x3A, 0x07, 0x05, 0xDC, 0xDE, 0x3B, 0x0A⟩ = true ∧ fullQueue.msgqCap = some 1 ∧
    fullQueue.msgq.length = 1 ∧ (opened .scanning rpmFrame).msgqCap = none ∧
    scan hw badFrame = .resync 0 ⟨0x3A, 0x07, 0x04, 0xDC, 0xDE, 0x3B, 0x0A⟩ := by decide

-- Both outcomes: the pass ends with an unbounded queue; with room for one message it is held behind the first.
theorem witness_RxPass :
    (opened .refill []).config.wf = true ∧ (opened .refill []).link = .opened ∧ (opened .refill []).phase = .refill ∧
    (opened .refill []).msgqCap = none ∧
    (next? (exec (.rxPass (rpmFrame ++ rpmFrame)) (opened .refill []))).map
      (fun t => (t.phase, t.result, t.msgq.length)) = some (.refill, .none, 2) ∧
    (next? (exec (.rxPass (rpmFrame ++ rpmFrame)) { opened .refill [] with msgqCap := some 1 })).map
      (fun t => (t.phase, t.result, t.msgq.length)) = some (.scanning, .hold, 1) := by decide

theorem witness_MsgqPopTakesTheOldestMessage :
    fullQueue.msgq = [⟨1, 0x01, 0x0000⟩] ∧ State.reset.msgq = [] := by decide

/-- A reachable state: the link opened after reset. -/
theorem reachable_opened (allowed : Instr → Prop) (h : allowed (.linkOpen true)) :
    ReachableBy allowed { opened .refill [] with result := .success } :=
  .exec (.linkOpen true) { State.reset with msgqCap := none, config := hw } _ (.reset none hw (by decide) (by decide)) h rfl

/-- A reachable state that has received a frame and emitted its message. -/
theorem reachable_received (allowed : Instr → Prop) (h : allowed (.linkOpen true)) (hp : allowed (.rxPass rpmFrame)) :
    ∃ t, ReachableBy allowed t ∧ t.phase = .refill ∧ t.emitted = [⟨0, 0x07, 0x05DC⟩] :=
  ⟨_, .exec (.rxPass rpmFrame) _ _ (reachable_opened allowed h) hp rfl, by decide, by decide⟩

theorem witness_EmittedIsTheGreedyScanOfTheStream :
    ∃ t, Reachable t ∧ t.phase = .refill ∧ t.emitted = [⟨0, 0x07, 0x05DC⟩] :=
  reachable_received _ trivial trivial

theorem witness_BufferOccupancyIsBounded :
    ∃ t, ReachableBy (refillAtMost 7) t ∧ t.phase = .refill ∧ t.emitted = [⟨0, 0x07, 0x05DC⟩] :=
  reachable_received _ trivial (by simp [refillAtMost, rpmFrame])

-- Both clauses with hypotheses: a corrupted frame without a marker behind its first byte, and one with a marker
-- whose window is invalid.
theorem witness_ResyncAfterACorruptedFrame :
    windowValid hw ⟨0x3A, 0x07, 0x04, 0xDC, 0xDE, 0x3B, 0x0A⟩ = false ∧
    windowValid hw ⟨0x3A, 0x07, 0x05, 0xDC, 0xDE, 0x3B, 0x0A⟩ = true ∧
    hw.start ∉ (bytes7List ⟨0x3A, 0x07, 0x04, 0xDC, 0xDE, 0x3B, 0x0A⟩).drop 1 ∧
    (∀ k < 7, (bytes7List ⟨0x3A, 0x07, 0x3A, 0xDC, 0xDE, 0x3B, 0x0A⟩)[k]? = some hw.start →
      (windowAt hw (bytes7List ⟨0x3A, 0x07, 0x3A, 0xDC, 0xDE, 0x3B, 0x0A⟩ ++ rpmFrame) k).map (windowValid hw) =
        some false) := by decide

theorem witness_OtherReadingOfTheResync :
    scan hw (0x00 :: badFrame) = .resync 1 ⟨0x3A, 0x07, 0x04, 0xDC, 0xDE, 0x3B, 0x0A⟩ ∧ 1 ≤ 1 := by decide

theorem witness_link_statements :
    (opened .refill []).link = .opened ∧ (opened .refill []).phase = .refill ∧ State.reset.link = .closed ∧
    (opened .scanning []).link = .opened ∧ (opened .scanning []).phase = .scanning := by decide

-- `StepKeepsTheInvariants`: a state that meets them, and its step.
theorem witness_StepKeepsTheInvariants :
    BlockInv State.reset ∧ ∃ t, step { State.reset with inbox := [⟨.controller, .call (.linkOpen true)⟩] } = .next t :=
  ⟨⟨by decide, by simp [State.reset], ⟨[], rfl⟩, by decide, by decide, by decide, by decide⟩, _, rfl⟩

-- `FieldsHaveOnlyTheirWriters`: every field changes somewhere.
theorem witness_FieldsHaveOnlyTheirWriters :
    ((next? (exec (.linkOpen true) State.reset)).map (·.link) = some .opened) ∧
    ((next? (exec (.rxAppend [0x3A]) (opened .refill []))).map (fun t => (t.phase, t.rxbuf, t.rxhist)) =
      some (.scanning, [0x3A], [0x3A])) ∧
    ((next? (exec .rxScan (opened .scanning rpmFrame))).map (fun t => (t.msgq.length, t.consumed, t.emitted.length)) =
      some (1, 7, 1)) ∧
    ((next? (exec (.txSend 0 0 0) (opened .refill []))).map (·.txstream.length) = some 7) := by decide

-- Two states that differ in their ghosts and outputs only.
theorem witness_GhostsAndOutputsAreNotRead :
    observable (opened .scanning rpmFrame) =
      observable { opened .scanning rpmFrame with rxhist := [], consumed := 3, labels := [.failLinkClosed] } := by decide

theorem witness_HoldsExactlyWhereNotEnabled :
    enabled .msgqPop State.reset = false ∧ enabled .rxScan (opened .scanning rpmFrame) = true := by decide

-- The five clauses: a window at the cursor, a packed message, an enabled call, a `RESET` behind a held command,
-- nothing to do.
theorem witness_StepRunsTheDecodedInstruction :
    pick (opened .scanning rpmFrame) [] (opened .scanning rpmFrame).inbox = none ∧
    (opened .scanning rpmFrame).window? = some (0, ⟨0x3A, 0x07, 0x05, 0xDC, 0xDE, 0x3B, 0x0A⟩) ∧
    decodeFrame hw ⟨0x3A, 0x07, 0x05, 0xDC, 0xDE, 0x3B, 0x0A⟩ = .ok (.response07 0x05DC 0xDE 0x0A) ∧
    decode hw (bytes3List ⟨0x7E, 0x00, 0x2A⟩) = .ok (.statusMsg 0x3E 0x002A) ∧
    enabled (.linkOpen true) State.reset = true ∧
    pick resetBehindClose [] [⟨.controller, .call .linkClose⟩] = none ∧ pick State.reset [] State.reset.inbox = none ∧
    State.reset.inPass = false := by decide

theorem witness_FetchDecodeRunIsRxScan :
    pick (opened .scanning badFrame) [] (opened .scanning badFrame).inbox = none ∧
    (opened .scanning badFrame).link = .opened ∧ (opened .scanning badFrame).phase = .scanning := by decide

end Sys2Proof.Tests
end

section
/-! PROOFS. The encoder and the decoder undo each other, and the frame decoder follows the masks of the opcode table
(30_encoding.md sections 2 to 4): O1, O2, O4. -/

namespace Sys2Proof.Machine

open Sys2Proof.Config Sys2Proof.Safety

/-! ### The two formats of the encoder and of the decoder -/

theorem encode_frame {c : WireConfig} {i : Instr} {f : FrameFields} (h : frameFields? c i = some f) :
    encode c i = some (bytes7List (rowWindow c f)) := by
  simp [encode, h]

theorem encode_message {c : WireConfig} {i : Instr} {m : Message} (hf : frameFields? c i = none)
    (h : packedMessage? c i = some m) : encode c i = some (bytes3List (packMessage m.type m.index m.payload)) := by
  simp [encode, hf, h]

/-- A row with an encoding is a frame row or a bare message row (R60). -/
theorem encode_eq_some {c : WireConfig} {i : Instr} {bytes : List Byte} (h : encode c i = some bytes) :
    (∃ f, frameFields? c i = some f ∧ bytes = bytes7List (rowWindow c f)) ∨
    (∃ m, packedMessage? c i = some m ∧ bytes = bytes3List (packMessage m.type m.index m.payload)) := by
  unfold encode at h
  split at h
  next _ _ f hf => exact .inl ⟨f, hf, (Option.some.inj h).symm⟩
  next _ _ m _ hm => exact .inr ⟨m, hm, (Option.some.inj h).symm⟩
  next => cases h

@[simp] theorem decode_bytes7List (c : WireConfig) (w : Bytes7) : decode c (bytes7List w) = decodeFrame c w := rfl

@[simp] theorem decode_bytes3List (c : WireConfig) (b : Bytes3) :
    decode c (bytes3List b) = .ok (decodeMessage c b) := rfl

/-- The decoder reads one of the two formats (R60). -/
theorem decode_eq_ok {c : WireConfig} {bytes : List Byte} {i : Instr} (h : decode c bytes = .ok i) :
    (∃ w, bytes = bytes7List w ∧ decodeFrame c w = .ok i) ∨ (∃ b, bytes = bytes3List b ∧ i = decodeMessage c b) := by
  unfold decode at h
  split at h
  next b0 b1 b2 => exact .inr ⟨⟨b0, b1, b2⟩, rfl, (Except.ok.inj h).symm⟩
  next b0 b1 b2 b3 b4 b5 b6 => exact .inl ⟨⟨b0, b1, b2, b3, b4, b5, b6⟩, rfl, h⟩
  next => cases h

/-- The window of a row's fields has both markers, so it is decoded by its id byte. -/
theorem decodeFrame_rowWindow (c : WireConfig) (f : FrameFields) : decodeFrame c (rowWindow c f) = .ok (idRow c f) := by
  rw [decodeFrame_eq_ok, windowFields_rowWindow]
  exact ⟨rfl, rfl, rfl⟩

@[simp] theorem messageOf_unpackMessage_packMessage (c : WireConfig) (m : Message) :
    messageOf (unpackMessage c (packMessage m.type m.index m.payload)) = m := by
  simp [messageOf, unpackMessage, packMessage]

@[simp] theorem packMessage_unpackMessage (c : WireConfig) (b : Bytes3) :
    packMessage (unpackMessage c b).type (unpackMessage c b).index (unpackMessage c b).payload = b := by
  simp [packMessage, unpackMessage]

theorem encode_of_decodeFrame {c : WireConfig} (hc : c.wf = true) {w : Bytes7} {i : Instr}
    (h : decodeFrame c w = .ok i) : encode c i = some (bytes7List w) := by
  obtain ⟨f, hf, rfl⟩ := rowWindow_of_decodeFrame hc h
  exact encode_frame hf

theorem encode_decodeMessage {c : WireConfig} (hc : c.wf = true) (b : Bytes3) :
    encode c (decodeMessage c b) = some (bytes3List b) := by
  obtain ⟨hm, hf⟩ := packedMessage_messageRow hc (messageOf (unpackMessage c b))
  simpa [decodeMessage, messageOf] using encode_message hf hm

/-- What the decoder answers encodes to the bytes it was read from. -/
theorem encode_of_decode {c : WireConfig} (hc : c.wf = true) {bytes : List Byte} {i : Instr}
    (h : decode c bytes = .ok i) : encode c i = some bytes := by
  rcases decode_eq_ok h with ⟨w, rfl, hframe⟩ | ⟨b, rfl, rfl⟩
  · exact encode_of_decodeFrame hc hframe
  · exact encode_decodeMessage hc b

/-! ### The frame rows of the table: per-id rows and per-type rows -/

/-- The per-id rows of a type (R67). -/
def idRows : MessageType → List (Index × (Payload → Byte → Byte → Instr))
  | .response => responseRows
  | .status => statusRows
  | .writeRequest => writeRequestRows
  | .readRequest => readRequestRows

/-- The row that the decoder gives to a type, an index and the free fields (log entry 8); `idRow_rowFields` ties it
to the decoder. -/
def tableRow (r : FrameRow) : Instr :=
  match r.type with
  | .response => responseRow r.index r.payload r.checksum r.terminator
  | .status => statusRow r.index r.payload r.checksum r.terminator
  | .writeRequest => writeRequestRow r.index r.payload r.checksum r.terminator
  | .readRequest => readRequestRow r.index r.payload r.checksum r.terminator

/-- The per-type row of a type, an index and the free fields (R66). -/
def typeRow (r : FrameRow) : Instr :=
  match r.type with
  | .response => .response r.index r.payload r.checksum r.terminator
  | .status => .status r.index r.payload r.checksum r.terminator
  | .writeRequest => .writeRequest r.index r.payload r.checksum r.terminator
  | .readRequest => .readRequest r.index r.payload r.checksum r.terminator

theorem idRow_eq_tableRow (c : WireConfig) (f : FrameFields) :
    idRow c f = tableRow ⟨c.typeOf (idType f.id), idIndex f.id, f.payload, f.checksum, f.terminator⟩ := rfl

theorem idRow_rowFields {c : WireConfig} (hc : c.wf = true) (r : FrameRow) : idRow c (rowFields c r) = tableRow r := by
  simp [idRow_eq_tableRow, rowFields, typeOf_code hc]

theorem frameRow_tableRow (r : FrameRow) : frameRow? (tableRow r) = some r := by
  obtain ⟨t, i, p, k, e⟩ := r
  cases t
  · exact frameRow_responseRow i p k e
  · exact frameRow_statusRow i p k e
  · exact frameRow_writeRequestRow i p k e
  · exact frameRow_readRequestRow i p k e

/-! Whether the decoder finds a per-id row, type by type. -/

theorem hasRow_false_iff (rows : List (Index × (Payload → Byte → Byte → Instr))) (i : Index) :
    hasRow rows i = false ↔ i ∉ rows.map Prod.fst := by
  simp only [hasRow, ← Bool.not_eq_true, List.any_eq_true, beq_iff_eq, List.mem_map]

theorem isTypeRow_responseRow (i : Index) (p : Payload) (k t : Byte) :
    isTypeRow (responseRow i p k t) = !hasRow responseRows i := by
  rw [Bool.eq_iff_iff]; unfold responseRow; split <;> simp_all [isTypeRow, hasRow_false_iff, responseRows]

theorem isTypeRow_statusRow (i : Index) (p : Payload) (k t : Byte) :
    isTypeRow (statusRow i p k t) = !hasRow statusRows i := by
  rw [Bool.eq_iff_iff]; unfold statusRow; split <;> simp_all [isTypeRow, hasRow_false_iff, statusRows]

theorem isTypeRow_writeRequestRow (i : Index) (p : Payload) (k t : Byte) :
    isTypeRow (writeRequestRow i p k t) = !hasRow writeRequestRows i := by
  rw [Bool.eq_iff_iff]; unfold writeRequestRow; split <;> simp_all [isTypeRow, hasRow_false_iff, writeRequestRows]

theorem isTypeRow_readRequestRow (i : Index) (p : Payload) (k t : Byte) :
    isTypeRow (readRequestRow i p k t) = !hasRow readRequestRows i := by
  rw [Bool.eq_iff_iff]; unfold readRequestRow; split <;> simp_all [isTypeRow, hasRow_false_iff, readRequestRows]

/-- The decoder answers a per-type row exactly for an index that the table has no row for (log entry 8). -/
theorem isTypeRow_tableRow (r : FrameRow) : isTypeRow (tableRow r) = !hasRow (idRows r.type) r.index := by
  obtain ⟨t, i, p, k, e⟩ := r
  cases t
  · exact isTypeRow_responseRow i p k e
  · exact isTypeRow_statusRow i p k e
  · exact isTypeRow_writeRequestRow i p k e
  · exact isTypeRow_readRequestRow i p k e

theorem secondSpelling_eq {i : Instr} {r : FrameRow} (h : frameRow? i = some r) :
    secondSpelling i = (isTypeRow i && hasRow (idRows r.type) r.index) := by
  cases i <;> cases h <;> rfl

/-- A per-id row is the row that the decoder gives to its type and index. -/
theorem eq_tableRow {i : Instr} {r : FrameRow} (h : frameRow? i = some r) (ht : isTypeRow i = false) :
    i = tableRow r := by
  cases i <;> cases ht <;> cases h <;> rfl

theorem eq_typeRow {i : Instr} {r : FrameRow} (h : frameRow? i = some r) (ht : isTypeRow i = true) :
    i = typeRow r := by
  cases i <;> cases ht <;> cases h <;> rfl

/-- A frame row that is no second spelling is the row that the decoder gives to its type and index. -/
theorem tableRow_of_frameRow {i : Instr} {r : FrameRow} (h : frameRow? i = some r) (hs : secondSpelling i = false) :
    tableRow r = i := by
  cases ht : isTypeRow i with
  | false => exact (eq_tableRow h ht).symm
  | true =>
    have hrow : hasRow (idRows r.type) r.index = false := by simpa [secondSpelling_eq h, ht] using hs
    have htable : isTypeRow (tableRow r) = true := by rw [isTypeRow_tableRow, hrow]; rfl
    rw [eq_typeRow (frameRow_tableRow r) htable, eq_typeRow h ht]

theorem frameFields_eq_some {c : WireConfig} {i : Instr} {f : FrameFields} :
    frameFields? c i = some f ↔ ∃ r, frameRow? i = some r ∧ rowFields c r = f := by
  simp [frameFields?]

theorem idRow_of_frameFields {c : WireConfig} (hc : c.wf = true) {i : Instr} {f : FrameFields}
    (h : frameFields? c i = some f) (hs : secondSpelling i = false) : idRow c f = i := by
  obtain ⟨r, hr, rfl⟩ := frameFields_eq_some.1 h
  rw [idRow_rowFields hc, tableRow_of_frameRow hr hs]

theorem messageRow_of_packedMessage {c : WireConfig} (hc : c.wf = true) {i : Instr} {m : Message}
    (h : packedMessage? c i = some m) : messageRow c m = i := by
  obtain ⟨r, hr, rfl⟩ : ∃ r, messageRow? i = some r ∧ (⟨c.code r.type, r.index, r.payload⟩ : Message) = m := by
    simpa [packedMessage?] using h
  rw [messageRow, typeOf_code hc]
  cases i <;> cases hr <;> rfl

/-- The bytes of a row are decoded, and to the row itself where it is no second spelling. -/
theorem decode_of_encode {c : WireConfig} (hc : c.wf = true) {i : Instr} {bytes : List Byte}
    (h : encode c i = some bytes) : ∃ j, decode c bytes = .ok j ∧ (secondSpelling i = false → j = i) := by
  rcases encode_eq_some h with ⟨f, hf, rfl⟩ | ⟨m, hm, rfl⟩
  · exact ⟨idRow c f, decodeFrame_rowWindow c f, idRow_of_frameFields hc hf⟩
  · refine ⟨messageRow c m, ?_, fun _ => messageRow_of_packedMessage hc hm⟩
    simp [decodeMessage]

/-! ### Masks and matches of the frame rows -/

theorem bitVec_append_inj {m n : Nat} {x x' : BitVec m} {y y' : BitVec n} :
    x ++ y = x' ++ y' ↔ x = x' ∧ y = y' := by
  refine ⟨fun h => ⟨?_, ?_⟩, fun ⟨hx, hy⟩ => by rw [hx, hy]⟩
  · simpa only [BitVec.extractLsb'_append_eq_left] using congrArg (BitVec.extractLsb' n m) h
  · simpa only [BitVec.extractLsb'_append_eq_right] using congrArg (BitVec.extractLsb' 0 n) h

theorem windowWord_inj {v w : Bytes7} : windowWord v = windowWord w ↔ v = w := by
  cases v; cases w
  unfold windowWord
  iterate 6 rw [bitVec_append_inj]
  simp [and_assoc]

theorem windowWord_and (v w : Bytes7) : windowWord v &&& windowWord w =
    windowWord ⟨v.b0 &&& w.b0, v.b1 &&& w.b1, v.b2 &&& w.b2, v.b3 &&& w.b3, v.b4 &&& w.b4, v.b5 &&& w.b5, v.b6 &&& w.b6⟩ := by
  unfold windowWord
  iterate 6 rw [BitVec.and_append]

/-- The word of a window with an id byte, its markers and zeros: the shape of every match (R73). -/
def matchWord (start endMarker id : Byte) : BitVec 56 := windowWord ⟨start, id, 0, 0, 0, endMarker, 0⟩

theorem matchWord_inj {s e b s' e' b' : Byte} : matchWord s e b = matchWord s' e' b' ↔ s = s' ∧ b = b' ∧ e = e' := by
  simp [matchWord, windowWord_inj]

theorem windowWord_and_idMask (w : Bytes7) : windowWord w &&& 0xFFFF000000FF00 = matchWord w.b0 w.b5 w.b1 := by
  have hmask : (0xFFFF000000FF00 : BitVec 56) = windowWord ⟨0xFF, 0xFF, 0, 0, 0, 0xFF, 0⟩ := by decide
  have hones (b : Byte) : b &&& 255#8 = b := BitVec.and_allOnes
  simp [hmask, windowWord_and, matchWord, hones]

theorem windowWord_and_typeMask (w : Bytes7) :
    windowWord w &&& 0xFFC0000000FF00 = matchWord w.b0 w.b5 (w.b1 &&& 0xC0) := by
  have hmask : (0xFFC0000000FF00 : BitVec 56) = windowWord ⟨0xFF, 0xC0, 0, 0, 0, 0xFF, 0⟩ := by decide
  have hones (b : Byte) : b &&& 255#8 = b := BitVec.and_allOnes
  simp [hmask, windowWord_and, matchWord, hones]

/-- The two type bits of an id byte (R63). -/
theorem idByte_idType_zero (id : Byte) : idByte (idType id) 0 = id &&& 0xC0 := by
  revert id; decide

section
variable {c : WireConfig} {i : Instr} {f : FrameFields}

/-- A per-id row tests the markers and the whole id byte (R73). -/
theorem mask_match_of_idRow (h : frameFields? c i = some f) (ht : isTypeRow i = false) :
    rowMask? i = some 0xFFFF000000FF00 ∧ rowMatch? c i = some (matchWord c.start c.endMarker f.id) := by
  obtain ⟨r, hr, rfl⟩ := frameFields_eq_some.1 h
  simp [rowMask?, rowMatch?, hr, ht, rowFields, matchWord]

/-- A per-type row tests the markers and the two type bits of the id byte (R73). -/
theorem mask_match_of_typeRow (h : frameFields? c i = some f) (ht : isTypeRow i = true) :
    rowMask? i = some 0xFFC0000000FF00 ∧ rowMatch? c i = some (matchWord c.start c.endMarker (f.id &&& 0xC0)) := by
  obtain ⟨r, hr, rfl⟩ := frameFields_eq_some.1 h
  have hid : idByte (c.code r.type) 0 = idByte (c.code r.type) r.index &&& 0xC0 := by
    rw [← idByte_idType_zero, idType_idByte]
  simp only [rowMask?, rowMatch?, hr, ht, rowFields, matchWord, hid, Option.map_some, if_true, and_self]

/-- The rows with the larger mask are the per-id rows. -/
theorem frameFields_of_idMask (h : rowMask? i = some 0xFFFF000000FF00) :
    (∃ f, frameFields? c i = some f) ∧ isTypeRow i = false := by
  obtain ⟨r, hr, hmask⟩ : ∃ r, frameRow? i = some r ∧
      (if isTypeRow i then 0xFFC0000000FF00 else 0xFFFF000000FF00) = (0xFFFF000000FF00 : BitVec 56) := by
    simpa only [rowMask?, Option.map_eq_some_iff] using h
  refine ⟨⟨rowFields c r, frameFields_eq_some.2 ⟨r, hr, rfl⟩⟩, ?_⟩
  cases ht : isTypeRow i with
  | false => rfl
  | true => rw [ht] at hmask; exact absurd hmask (by decide)

/-- Whether the decoder answers a per-type row depends on the id byte alone. -/
theorem isTypeRow_idRow_of_frameFields (hc : c.wf = true) (h : frameFields? c i = some f) (ht : isTypeRow i = false)
    {g : FrameFields} (hg : g.id = f.id) : isTypeRow (idRow c g) = false := by
  obtain ⟨r, hr, rfl⟩ := frameFields_eq_some.1 h
  have hrow : (!hasRow (idRows r.type) r.index) = false := by
    rw [← isTypeRow_tableRow, ← eq_tableRow hr ht, ht]
  simpa [idRow_eq_tableRow, isTypeRow_tableRow, hg, rowFields, typeOf_code hc] using hrow

/-- A decoded window agrees with its row's match under the row's mask. -/
theorem decodeFrame_agrees (hc : c.wf = true) {w : Bytes7} (h : decodeFrame c w = .ok i) :
    ∃ mask value, rowMask? i = some mask ∧ rowMatch? c i = some value ∧ windowWord w &&& mask = value := by
  obtain ⟨f, hf, rfl⟩ := rowWindow_of_decodeFrame hc h
  cases ht : isTypeRow i with
  | false =>
    obtain ⟨hmask, hmatch⟩ := mask_match_of_idRow hf ht
    exact ⟨_, _, hmask, hmatch, windowWord_and_idMask _⟩
  | true =>
    obtain ⟨hmask, hmatch⟩ := mask_match_of_typeRow hf ht
    exact ⟨_, _, hmask, hmatch, windowWord_and_typeMask _⟩

/-- A window that agrees with a per-id row is decoded to a row with that mask and that match. -/
theorem decodeFrame_of_agrees (hc : c.wf = true) {w : Bytes7} {value : BitVec 56}
    (hmask : rowMask? i = some 0xFFFF000000FF00) (hmatch : rowMatch? c i = some value)
    (hagree : windowWord w &&& 0xFFFF000000FF00 = value) :
    ∃ j, decodeFrame c w = .ok j ∧ rowMask? j = some 0xFFFF000000FF00 ∧ rowMatch? c j = some value := by
  obtain ⟨⟨f, hf⟩, ht⟩ := frameFields_of_idMask (c := c) hmask
  have hvalue : value = matchWord c.start c.endMarker f.id :=
    Option.some.inj (hmatch.symm.trans (mask_match_of_idRow hf ht).2)
  rw [hvalue, windowWord_and_idMask, matchWord_inj] at hagree
  obtain ⟨hstart, hid, hend⟩ := hagree
  have hj : isTypeRow (idRow c (windowFields w)) = false := isTypeRow_idRow_of_frameFields hc hf ht hid
  obtain ⟨hjmask, hjmatch⟩ := mask_match_of_idRow (frameFields_idRow hc (windowFields w)) hj
  refine ⟨idRow c (windowFields w), (decodeFrame_eq_ok c w _).2 ⟨hstart, hend, rfl⟩, hjmask, ?_⟩
  rw [hjmatch, hvalue, ← hid]; rfl

end

/-- The match of this hardware with an id byte at bits 47..40 (R73). -/
theorem matchWord_hw (id : Byte) :
    matchWord hw.start hw.endMarker id = 0x3A000000003B00 ||| (id.setWidth 56 <<< 40) := by
  revert id; decide

/-! ### The obligations -/

/-- Settles O1: the encoder and the decoder use the same two formats, and each row is the one that the decoder gives
to its type and index, but for a second spelling. -/
theorem decodeReadsEveryEncodedRow : Obligations.DecodeReadsEveryEncodedRow := by
  intro c i bytes hc h
  obtain ⟨j, hj, hij⟩ := decode_of_encode hc h
  exact ⟨j, hj, encode_of_decode hc hj, hij⟩

/-- Settles O2, by the two formats that the decoder reads. -/
theorem encodeGivesBackDecodedBytes : Obligations.EncodeGivesBackDecodedBytes :=
  fun _ _ _ hc h => encode_of_decode hc h

/-- Settles O4: the masks keep the markers and the id byte or its type bits, which are what the decoder reads. -/
theorem decodedFramesMatchTheTable : Obligations.DecodedFramesMatchTheTable := by
  refine ⟨fun c w i hc h => decodeFrame_agrees hc h,
    fun c w i value hc hmask hmatch hagree => decodeFrame_of_agrees hc hmask hmatch hagree, fun i f hf => ?_⟩
  cases ht : isTypeRow i with
  | false => exact .inl (by simpa only [matchWord_hw] using mask_match_of_idRow hf ht)
  | true => exact .inr (by simpa only [matchWord_hw] using mask_match_of_typeRow hf ht)

end Sys2Proof.Machine
end

section
/-! PROOFS. No instruction reads a ghost field or an output of an earlier step (10_state.md R26, 60_exceptions.md R214):
O55. An operation is compared in a state and in what is observable of it; two states that differ in ghosts and outputs
only are then compared through the observable state that they share. -/

namespace Sys2Proof.Machine

open Sys2Proof.Safety

/-! ### What is compared: a state with its outputs but without its ghosts -/

/-- The state with its three ghost fields cleared, the outputs kept (R26). -/
def State.withoutGhosts (s : State) : State := { s with rxhist := [], consumed := 0, emitted := [] }

/-- The answer with the ghost fields of its next state cleared. -/
def answerWithoutGhosts : Answer → Answer
  | .next t => .next t.withoutGhosts
  | .fault r => .fault r
  | .refused r => .refused r

theorem observable_of_withoutGhosts {s s' : State} (h : s.withoutGhosts = s'.withoutGhosts) :
    observable s = observable s' :=
  congrArg silent h

/-- A reading of the state that no ghost field enters is equal in states that differ in ghosts only. -/
theorem reading_of_withoutGhosts {α : Type} {g : State → α} (hg : ∀ s, g s.withoutGhosts = g s) {s s' : State}
    (h : s.withoutGhosts = s'.withoutGhosts) : g s = g s' := by
  rw [← hg s, ← hg s', h]

theorem phase_of_withoutGhosts {s s' : State} (h : s.withoutGhosts = s'.withoutGhosts) : s.phase = s'.phase :=
  reading_of_withoutGhosts (g := State.phase) (fun _ => rfl) h

theorem result_of_withoutGhosts {s s' : State} (h : s.withoutGhosts = s'.withoutGhosts) : s.result = s'.result :=
  reading_of_withoutGhosts (g := State.result) (fun _ => rfl) h

theorem labels_of_withoutGhosts {s s' : State} (h : s.withoutGhosts = s'.withoutGhosts) : s.labels = s'.labels :=
  reading_of_withoutGhosts (g := State.labels) (fun _ => rfl) h

theorem canScan_of_withoutGhosts {s s' : State} (h : s.withoutGhosts = s'.withoutGhosts) : s.canScan = s'.canScan :=
  reading_of_withoutGhosts (g := State.canScan) (fun _ => rfl) h

theorem withoutGhosts_reply {s s' : State} (h : s.withoutGhosts = s'.withoutGhosts) (r : Result) (ls : List Label) :
    (s.reply r ls).withoutGhosts = (s'.reply r ls).withoutGhosts :=
  congrArg (State.reply · r ls) h

/-! ### The conditions of the state are read off its observable fields -/

theorem link_observable (s : State) : (observable s).link = s.link := rfl

theorem phase_observable (s : State) : (observable s).phase = s.phase := rfl

theorem config_observable (s : State) : (observable s).config = s.config := rfl

theorem room_observable (s : State) : (observable s).room = s.room := rfl

theorem outcome_observable (s : State) : (observable s).outcome? = s.outcome? := rfl

theorem window_observable (s : State) : (observable s).window? = s.window? := rfl

theorem canRefill_observable (s : State) : (observable s).canRefill = s.canRefill := rfl

/-! ### The operations read the observable fields only -/

/-- The operation reads no ghost and no output: on the observable part of a state it does what it does on the state,
up to the ghosts. -/
def ReadsObservable (f : State → State) : Prop :=
  ∀ s, (f s).withoutGhosts = (f (observable s)).withoutGhosts

theorem ReadsObservable.congr {f : State → State} (hf : ReadsObservable f) {s s' : State}
    (h : observable s = observable s') : (f s).withoutGhosts = (f s').withoutGhosts := by
  rw [hf s, hf s', h]

theorem readsObservable_hold : ReadsObservable State.hold := fun _ => rfl

theorem readsObservable_rejectWindow (p : Nat) (w : Bytes7) : ReadsObservable (rejectWindow p w) := fun _ => rfl

theorem readsObservable_takeFrame (p : Nat) (w : Bytes7) : ReadsObservable (takeFrame p w) := by
  intro s
  cases h : s.room with
  | true => rw [takeFrame_room h, takeFrame_room ((room_observable s).trans h)]; rfl
  | false => rw [takeFrame_full h, takeFrame_full ((room_observable s).trans h)]; rfl

theorem readsObservable_applyOutcome (o : ScanOutcome) : ReadsObservable (applyOutcome o) := by
  cases o with
  | short => exact fun _ => rfl
  | discard => exact fun _ => rfl
  | wait p => exact fun _ => rfl
  | emit p w => exact readsObservable_takeFrame p w
  | resync p w => exact readsObservable_rejectWindow p w

theorem readsObservable_scanStep : ReadsObservable scanStep := by
  intro s
  unfold scanStep
  rw [outcome_observable]
  split
  next o _ => exact readsObservable_applyOutcome o s
  next => exact readsObservable_hold s

/-- The scan loop keeps the labels of the steps before it, so it starts from equal outputs. -/
theorem withoutGhosts_scanLoop (n : Nat) {s s' : State} (h : s.withoutGhosts = s'.withoutGhosts) :
    (scanLoop n s).withoutGhosts = (scanLoop n s').withoutGhosts := by
  induction n generalizing s s' with
  | zero => exact h
  | succ n ih =>
    have hstep : (scanStep s).withoutGhosts = (scanStep s').withoutGhosts :=
      readsObservable_scanStep.congr (observable_of_withoutGhosts h)
    simp only [scanLoop, canScan_of_withoutGhosts h, labels_of_withoutGhosts h, result_of_withoutGhosts hstep,
      labels_of_withoutGhosts hstep]
    split
    · exact ih (withoutGhosts_reply hstep _ _)
    · exact h

theorem readsObservable_passStep (chunk : List Byte) : ReadsObservable (passStep chunk) := by
  intro s
  have hloop : (scanLoop (s.rxbuf.length + chunk.length + 1) ((s.appendRx chunk).reply .none [])).withoutGhosts =
      (scanLoop ((observable s).rxbuf.length + chunk.length + 1)
        (((observable s).appendRx chunk).reply .none [])).withoutGhosts := withoutGhosts_scanLoop _ rfl
  cases hr : s.canRefill with
  | false => rw [passStep_held hr, passStep_held ((canRefill_observable s).trans hr)]; rfl
  | true =>
    simp only [passStep, canRefill_observable, hr, if_true, phase_of_withoutGhosts hloop, labels_of_withoutGhosts hloop]
    split
    · exact hloop
    · exact withoutGhosts_reply hloop _ _

theorem readsObservable_receiveFrame (f : FrameFields) : ReadsObservable (receiveFrame f) := by
  intro s
  unfold receiveFrame
  rw [window_observable, config_observable]
  split
  next p w _ =>
    split_ifs
    · exact readsObservable_takeFrame p w s
    · exact readsObservable_rejectWindow p w s
    · exact readsObservable_hold s
  next => exact readsObservable_hold s

theorem readsObservable_receiveRow (i : Instr) : ReadsObservable (receiveRow i) := by
  intro s
  unfold receiveRow
  rw [config_observable]
  split
  next f _ => exact readsObservable_receiveFrame f s
  next => exact readsObservable_hold s

theorem readsObservable_popStep : ReadsObservable popStep := by
  intro s
  cases h : s.msgq with
  | nil => rw [popStep_nil h, popStep_nil (s := observable s) h]; rfl
  | cons m ms => rw [popStep_cons h, popStep_cons (s := observable s) h]; rfl

/-! ### The instructions -/

theorem answerWithoutGhosts_next {f : State → State} (hf : ReadsObservable f) (s : State) :
    answerWithoutGhosts (.next (f s)) = answerWithoutGhosts (.next (f (observable s))) :=
  congrArg Host.Outcome.next (hf s)

/-- Every instruction answers on the observable part of a state what it answers on the state, up to the ghosts. -/
theorem exec_observable (i : Instr) (s : State) :
    answerWithoutGhosts (exec i s) = answerWithoutGhosts (exec i (observable s)) := by
  cases hf : frameRow? i with
  | some r => rw [exec_row hf, exec_row hf]; exact answerWithoutGhosts_next (readsObservable_receiveRow i) s
  | none =>
    cases i <;> try (cases hf; done) -- the frame rows, which `hf` excludes
    case rxScan => exact answerWithoutGhosts_next readsObservable_scanStep s
    case rxPass chunk => exact answerWithoutGhosts_next (readsObservable_passStep chunk) s
    case msgqPop => exact answerWithoutGhosts_next readsObservable_popStep s
    case rxScanShort | rxScanDiscard | rxScanWait | rxScanEmit | rxScanResync =>
      refine congrArg Host.Outcome.next ?_
      rw [outcome_observable]
      split
      · exact readsObservable_applyOutcome _ s
      · exact readsObservable_hold s
    case rxAppend chunk =>
      cases hr : s.canRefill <;> simp only [exec, execRxAppend, canRefill_observable, hr] <;> rfl
    case payloadFromInt n signed =>
      simp only [exec, execPayloadFromInt]
      split <;> rfl
    case txSend | txSendClosed | linkOpen | linkClose =>
      simp only [exec, execTxSend, execTxSendClosed, execLinkOpen, execLinkClose, link_observable, phase_observable]
      split <;> rfl
    -- The bare message rows, the codecs and `RESET` are one update each, under no condition on the state.
    all_goals rfl

theorem exec_withoutGhosts_congr (i : Instr) {s s' : State} (h : observable s = observable s') :
    answerWithoutGhosts (exec i s) = answerWithoutGhosts (exec i s') := by
  rw [exec_observable i s, exec_observable i s', h]

/-- Settles O55: both states are compared with the observable state that they share, and answers that agree up to the
ghosts of the next state agree in what the statement compares. -/
theorem ghostsAndOutputsAreNotRead : Obligations.GhostsAndOutputsAreNotRead := by
  intro i s s' h
  have hanswer := exec_withoutGhosts_congr i h
  generalize exec i s = a, exec i s' = a' at hanswer ⊢
  match a, a', hanswer with
  | .next t, .next t', hnext =>
    have ht : t.withoutGhosts = t'.withoutGhosts := Host.Outcome.next.inj hnext
    exact ⟨observable_of_withoutGhosts ht, result_of_withoutGhosts ht, labels_of_withoutGhosts ht⟩
  | .refused r, .refused r', hrefused => exact Host.Outcome.refused.inj hrefused

end Sys2Proof.Machine
end

section
/-! PROOFS. The queue is first-in first-out (10_state.md R24, 20_memory.md R50): O54. Every elementary update
leaves the queue or appends to it and to its input history alike, but for the three that `MSGQ_POP`, `LINK_OPEN` and
`RESET` ask for; so does every chain of updates, and with it every other instruction. -/

namespace Sys2Proof.Machine

/-! ### Appending to the queue and to its input history alike -/

/-- From `s` to `t` the same messages, in the same order, were appended to the queue and to EMITTED (R50). -/
def QueueExtends (s t : State) : Prop := ∃ ms, t.msgq = s.msgq ++ ms ∧ t.emitted = s.emitted ++ ms

theorem QueueExtends.of_eq {s t : State} (hq : t.msgq = s.msgq) (he : t.emitted = s.emitted) : QueueExtends s t :=
  ⟨[], by simp [hq], by simp [he]⟩

theorem QueueExtends.trans {s t u : State} (hst : QueueExtends s t) (htu : QueueExtends t u) : QueueExtends s u := by
  obtain ⟨ms, hq, he⟩ := hst
  obtain ⟨ns, hq', he'⟩ := htu
  exact ⟨ms ++ ns, by simp [hq, hq'], by simp [he, he']⟩

/-! ### Which updates do that -/

/-- Every elementary update extends the queue, but for the taking, the opening and the clearing, which only
`MSGQ_POP`, `LINK_OPEN` and `RESET` ask for. -/
theorem Update.queueExtends {i : Instr} {s u : State} (h : Update i s u) (hpop : i ≠ .msgqPop)
    (hopen : i ≠ .linkOpen true) (hreset : i ≠ .reset) : QueueExtends s u := by
  cases h with
  | take p w => exact ⟨[_], rfl, rfl⟩
  | pop m ms hi => exact absurd hi hpop
  | opens hi => exact absurd hi hopen
  | clears hi => exact absurd hi hreset
  | append | short | discard | wait | reject | send | closes => exact .of_eq rfl rfl

theorem kept_queueExtends {i : Instr} (hpop : i ≠ .msgqPop) (hopen : i ≠ .linkOpen true) (hreset : i ≠ .reset)
    (s : State) : Kept i (QueueExtends s) where
  reply _ _ _ h := h.trans (.of_eq rfl rfl)
  update _ _ h hu := h.trans (hu.queueExtends hpop hopen hreset)

/-! ### The instructions -/

theorem exec_queueExtends {i : Instr} {s t : State} (h : exec i s = .next t) (hpop : i ≠ .msgqPop)
    (hopen : i ≠ .linkOpen true) (hreset : i ≠ .reset) : QueueExtends s t :=
  exec_keeps (kept_queueExtends hpop hopen hreset s) h (.of_eq rfl rfl)

/-- Opening the link leaves the queue, whatever it does to EMITTED (R172). -/
theorem exec_linkOpen_msgq {answer : Bool} {s t : State} (h : exec (.linkOpen answer) s = .next t) :
    t.msgq = s.msgq := by
  simp only [exec, execLinkOpen] at h
  split at h <;> cases h <;> rfl

/-- The consumer holds on an empty queue, and otherwise takes the oldest message and no other (R149). -/
theorem exec_msgqPop_cases {s t : State} (h : exec .msgqPop s = .next t) :
    QueueExtends s t ∨ ∃ m, s.msgq = m :: t.msgq ∧ t.result = .message m ∧ t.emitted = s.emitted := by
  obtain rfl : popStep s = t := Host.Outcome.next.inj h
  cases hq : s.msgq with
  | nil => rw [popStep_nil hq]; exact .inl (.of_eq rfl rfl)
  | cons m ms => rw [popStep_cons hq]; exact .inr ⟨m, by simp [hq], rfl, rfl⟩

/-- Settles O54: `RESET` is excepted, `LINK_OPEN` and `MSGQ_POP` are looked at by themselves, and every other
instruction extends the queue and EMITTED alike. -/
theorem queueIsFirstInFirstOut : Obligations.QueueIsFirstInFirstOut := by
  intro i s t h
  by_cases hreset : i = .reset
  · exact .inr (.inr hreset)
  by_cases hopen : i = .linkOpen true
  · subst hopen
    exact .inl ⟨[], by simp [exec_linkOpen_msgq h], .inr ⟨rfl, rfl⟩⟩
  by_cases hpop : i = .msgqPop
  · subst hpop
    rcases exec_msgqPop_cases h with ⟨ms, hq, he⟩ | htaken
    · exact .inl ⟨ms, hq, .inl he⟩
    · exact .inr (.inl ⟨rfl, htaken⟩)
  · obtain ⟨ms, hq, he⟩ := exec_queueExtends h hpop hopen hreset
    exact .inl ⟨ms, hq, .inl he⟩

end Sys2Proof.Machine
end

section
/-! PROOFS. A valid window as a bit pattern, the words that the decoder reads and refuses, and the bare message rows
(30_encoding.md sections 1, 2 and 4): O6, O7, O29. -/

namespace Sys2Proof.Machine

open Sys2Proof.Config Sys2Proof.Safety

/-! ### The word of a window, byte by byte -/

/-- Byte `k` of a window stands at bits `8 * (6 - k) + 7` to `8 * (6 - k)` of its word (R10). -/
theorem windowWord_byte (w : Bytes7) (k : Fin 7) :
    (windowWord w).extractLsb' (8 * (6 - k)) 8 = (bytes7List w)[k] := by
  unfold windowWord
  fin_cases k <;> simp only [BitVec.extractLsb'_append_eq_ite] <;> simp [bytes7List]

/-- The mask of R73 keeps the two markers. -/
theorem windowWord_and_markerMask (w : Bytes7) : windowWord w &&& 0xFF00000000FF00 = matchWord w.b0 w.b5 0 := by
  have hmask : (0xFF00000000FF00 : BitVec 56) = windowWord ⟨0xFF, 0, 0, 0, 0, 0xFF, 0⟩ := by decide
  have hones (b : Byte) : b &&& 255#8 = b := BitVec.and_allOnes
  simp [hmask, windowWord_and, matchWord, hones]

/-- A word agrees with the markers of this hardware under the mask of R73 exactly when its window has them. -/
theorem markers_hw_iff (w : Bytes7) :
    windowWord w &&& 0xFF00000000FF00 = 0x3A000000003B00 ↔ w.b0 = hw.start ∧ w.b5 = hw.endMarker := by
  have hmatch : (0x3A000000003B00 : BitVec 56) = matchWord hw.start hw.endMarker 0 := by decide
  rw [hmatch, windowWord_and_markerMask, matchWord_inj]
  simp only [true_and]

/-! ### The legal id bytes -/

theorem idByte_eq_iff {t : TypeCode} {i : Index} {id : Byte} : idByte t i = id ↔ t = idType id ∧ i = idIndex id := by
  constructor
  · rintro rfl; simp
  · rintro ⟨rfl, rfl⟩; exact idByte_split id

/-- The list of R67 is the enumeration of each type under its code: 17, 11, 17 and 17 bytes. -/
theorem legalIdBytes_eq : legalIdBytes =
    hw.paramIndex.map (idByte hw.response) ++ hw.statusIndex.map (idByte hw.status) ++
      hw.paramIndex.map (idByte hw.writeRequest) ++ hw.paramIndex.map (idByte hw.readRequest) := by
  decide

/-- The id bytes of R67 are the legal ones (R68). -/
theorem mem_legalIdBytes (id : Byte) : id ∈ legalIdBytes ↔ isKnownIndex hw (idType id) (idIndex id) = true := by
  obtain ⟨type, htype⟩ : ∃ type, idType id = hw.code type := ⟨_, (code_typeOf hw_wf _).symm⟩
  simp only [legalIdBytes_eq, List.mem_append, List.mem_map, idByte_eq_iff, htype]
  cases type <;> simp [isKnownIndex, WireConfig.code, hw]

theorem nodup_legalIdBytes : legalIdBytes.Nodup := by decide

/-! ### Words that are no row -/

/-- Without the start marker a window is no row (R69). -/
theorem decodeFrame_badStart {c : WireConfig} {w : Bytes7} (h : w.b0 ≠ c.start) : decodeFrame c w = .error .badStart := by
  simp [decodeFrame, h]

/-- With the start marker but without the end marker a window is no row (R69). -/
theorem decodeFrame_badEnd {c : WireConfig} {w : Bytes7} (hstart : w.b0 = c.start) (h : w.b5 ≠ c.endMarker) :
    decodeFrame c w = .error .badEnd := by
  simp [decodeFrame, hstart, h]

/-- Bytes of any other length are in no format (R60, R72). -/
theorem decode_noSuchFormat (c : WireConfig) {bytes : List Byte} (h3 : bytes.length ≠ 3) (h7 : bytes.length ≠ 7) :
    decode c bytes = .error .noSuchFormat := by
  unfold decode
  split
  next => exact absurd rfl h3
  next => exact absurd rfl h7
  next => rfl

/-- The bytes of a row that is no second spelling are decoded to it. -/
theorem decode_eq_of_encode {c : WireConfig} (hc : c.wf = true) {i : Instr} {bytes : List Byte}
    (h : encode c i = some bytes) (hs : secondSpelling i = false) : decode c bytes = .ok i := by
  obtain ⟨j, hj, hij⟩ := decode_of_encode hc h
  rw [hj, hij hs]

/-! ### The bare message rows -/

/-- Unpacking gives the fields of a packed message, with the mark of its enumeration (R100, R101). -/
@[simp] theorem unpackMessage_packMessage (c : WireConfig) (t : TypeCode) (i : Index) (p : Payload) :
    unpackMessage c (packMessage t i p) = ⟨t, i, p, isKnownIndex c t i⟩ := by
  simp [unpackMessage, packMessage]

/-- A bare message row answers its message, with the mark of its enumeration (R101; log entry 10). -/
theorem exec_packedMessage {i : Instr} {s : State} {m : Message} (h : packedMessage? s.config i = some m) :
    exec i s = .next (s.reply (.decoded ⟨m.type, m.index, m.payload, isKnownIndex s.config m.type m.index⟩) []) := by
  rw [exec_message h, unpackMessage_packMessage]

/-! ### The obligations -/

/-- Settles O6: the four conditions of a valid window, each read from the bits of its word. -/
theorem validityAsBitPattern : Obligations.ValidityAsBitPattern := by
  refine ⟨fun w => ?_, rfl, nodup_legalIdBytes, mem_legalIdBytes⟩
  have hid : (windowWord w).extractLsb' 40 8 = w.b1 := windowWord_byte w 1
  have hhi : (windowWord w).extractLsb' 32 8 = w.b2 := windowWord_byte w 2
  have hlo : (windowWord w).extractLsb' 24 8 = w.b3 := windowWord_byte w 3
  have hck : (windowWord w).extractLsb' 16 8 = w.b4 := windowWord_byte w 4
  rw [windowValid_iff, markers_hw_iff, hid, hhi, hlo, hck, mem_legalIdBytes]
  tauto

/-- Settles O7: the sample words are the encodings of their rows, or break R69, R60 or R72. -/
theorem sampleWordsDecode : Obligations.SampleWordsDecode := by
  refine ⟨?readRequest, ?response, ?status, ?writeRequest, ?typeRow, ?message, ?start, ?endMarker, ?length⟩
  case start => exact decodeFrame_badStart (by decide)
  case endMarker => exact decodeFrame_badEnd rfl (by decide)
  case length => exact decode_noSuchFormat hw (by decide) (by decide)
  all_goals exact decode_eq_of_encode hw_wf (by decide) (by decide)

/-- Settles O29: each of the four rows holds the message of its type. -/
theorem messageRowsDecode : Obligations.MessageRowsDecode := by
  intro index payload s
  refine ⟨?response, ?status, ?writeRequest, ?readRequest⟩
  case response => exact exec_packedMessage (m := ⟨s.config.response, index, payload⟩) rfl
  case status => exact exec_packedMessage (m := ⟨s.config.status, index, payload⟩) rfl
  case writeRequest => exact exec_packedMessage (m := ⟨s.config.writeRequest, index, payload⟩) rfl
  case readRequest => exact exec_packedMessage (m := ⟨s.config.readRequest, index, payload⟩) rfl

end Sys2Proof.Machine
end

section
/-! PROOFS. The message codec: packing, unpacking, the index enumerations and the two readings of a payload
(40_message_codec.md R100 to R106): O8 to O14. -/

namespace Sys2Proof.Machine

open Sys2Proof.Config

/-! ### The six operations, each as what it returns and no other change -/

section

variable (s : State)

theorem exec_msgEncode (t : TypeCode) (i : Index) (p : Payload) :
    exec (.msgEncode t i p) s = .next (s.reply (.bytes (bytes3List (packMessage t i p))) []) := rfl

theorem exec_msgDecode (b : Bytes3) :
    exec (.msgDecode b) s = .next (s.reply (.decoded (unpackMessage s.config b)) []) := rfl

theorem exec_indexKnown (t : TypeCode) (i : Index) :
    exec (.indexKnown t i) s = .next (s.reply (.truth (isKnownIndex s.config t i)) []) := rfl

theorem exec_payloadU (p : Payload) :
    exec (.payloadU p) s = .next (s.reply (.natural (unsignedReading p)) []) := rfl

theorem exec_payloadS (p : Payload) :
    exec (.payloadS p) s = .next (s.reply (.integer (signedReading p)) []) := rfl

theorem exec_payloadFromInt (n : Int) (signed : Bool) :
    exec (.payloadFromInt n signed) s = execPayloadFromInt n signed s := rfl

/-- Inside the range the operation answers the low 16 bits of the number (R105). -/
theorem exec_payloadFromInt_inside {n : Int} {signed : Bool} (h : inReading n signed = true) :
    exec (.payloadFromInt n signed) s = .next (s.reply (.payload (BitVec.ofInt 16 n)) []) := by
  simp [exec_payloadFromInt, execPayloadFromInt, payloadFromReading, h]

/-- Outside the range it is refused by name (decision D27). -/
theorem exec_payloadFromInt_outside {n : Int} {signed : Bool} (h : inReading n signed = false) :
    exec (.payloadFromInt n signed) s = .refused (.payloadOutOfRange n signed) := by
  simp [exec_payloadFromInt, execPayloadFromInt, payloadFromReading, h]

end

/-! ### The two enumerations -/

/-- The type selects the enumeration (R102). -/
theorem isKnownIndex_eq (c : WireConfig) (t : TypeCode) (i : Index) :
    isKnownIndex c t i = if t = c.status then decide (i ∈ c.statusIndex) else decide (i ∈ c.paramIndex) := by
  simp only [isKnownIndex, List.contains_eq_mem]

/-- The parameter indices of this hardware are an interval (R6). -/
theorem mem_paramIndex_hw : ∀ i : Index, i ∈ hw.paramIndex ↔ i.toNat ≤ 0x10 := by decide

/-- 11 pairs of the type STATUS and 17 of each other type (R102): pair `k` has the id byte `k`. -/
theorem knownPairs_length :
    ((List.range 256).filter fun k => isKnownIndex hw (BitVec.ofNat 2 (k / 64)) (BitVec.ofNat 6 k)).length = 62 := by
  decide

/-! ### The two readings of a payload -/

/-- The high byte weighs 256 (R103). -/
theorem toNat_eq_payloadHi_payloadLo (p : Payload) : p.toNat = 256 * (payloadHi p).toNat + (payloadLo p).toNat := by
  have hlt : p.toNat < 65536 := p.isLt
  simp only [payloadHi, payloadLo, BitVec.extractLsb'_toNat, Nat.shiftRight_eq_div_pow]
  omega

/-- The signed reading is two's complement (R104, log entry 13). -/
theorem signedReading_eq_toInt (p : Payload) : signedReading p = p.toInt := by
  rw [BitVec.toInt_eq_msb_cond]; rfl

theorem signedReading_of_bit15_clear {p : Payload} (h : p.getLsbD 15 = false) : signedReading p = p.toNat := by
  have hmsb : p.msb = false := p.msb_eq_getLsbD_last.trans h
  simp [signedReading, hmsb]

theorem signedReading_of_bit15_set {p : Payload} (h : p.getLsbD 15 = true) :
    signedReading p = (p.toNat : Int) - 65536 := by
  have hmsb : p.msb = true := p.msb_eq_getLsbD_last.trans h
  simp [signedReading, hmsb]

theorem signedReading_bounds (p : Payload) : -32768 ≤ signedReading p ∧ signedReading p ≤ 32767 := by
  have hlow : -2 ^ 15 ≤ p.toInt := p.le_toInt
  have hhigh : p.toInt < 2 ^ 15 := BitVec.toInt_lt
  rw [signedReading_eq_toInt]
  omega

theorem inReading_signed {n : Int} : inReading n true = true ↔ -32768 ≤ n ∧ n ≤ 32767 := by simp [inReading]

theorem inReading_unsigned {n : Int} : inReading n false = true ↔ 0 ≤ n ∧ n ≤ 65535 := by simp [inReading]

/-- The signed reading of the low 16 bits of a number in its range is that number (R105). -/
theorem signedReading_ofInt {n : Int} (h : inReading n true = true) : signedReading (BitVec.ofInt 16 n) = n := by
  obtain ⟨hlow, hhigh⟩ := inReading_signed.1 h
  rw [signedReading_eq_toInt]
  exact BitVec.toInt_ofInt_eq_self (by decide) (by omega) (by omega)

/-- The unsigned reading of the low 16 bits of a number in its range is that number (R105). -/
theorem unsignedReading_ofInt {n : Int} (h : inReading n false = true) :
    (unsignedReading (BitVec.ofInt 16 n) : Int) = n := by
  obtain ⟨hlow, hhigh⟩ := inReading_unsigned.1 h
  rw [unsignedReading, BitVec.toNat_ofInt]
  omega

/-! ### The obligations -/

/-- Settles O13: inside the range the low 16 bits are read back as the number, outside it nothing is answered. -/
theorem payloadFromIntInvertsTheReadings : Obligations.PayloadFromIntInvertsTheReadings := by
  refine ⟨?signed, ?unsigned, ?outsideSigned, ?outsideUnsigned⟩
  case signed =>
    intro n s hlow hhigh
    have h : inReading n true = true := inReading_signed.2 ⟨hlow, hhigh⟩
    refine ⟨BitVec.ofInt 16 n, exec_payloadFromInt_inside s h, ?_⟩
    rw [exec_payloadS, signedReading_ofInt h]
    rfl
  case unsigned =>
    intro n s hlow hhigh
    have h : inReading n false = true := inReading_unsigned.2 ⟨hlow, hhigh⟩
    exact ⟨BitVec.ofInt 16 n, exec_payloadFromInt_inside s h, unsignedReading_ofInt h⟩
  case outsideSigned =>
    intro n s h
    refine exec_payloadFromInt_outside s (Bool.eq_false_iff.2 ?_)
    rw [ne_eq, inReading_signed]
    omega
  case outsideUnsigned =>
    intro n s h
    refine exec_payloadFromInt_outside s (Bool.eq_false_iff.2 ?_)
    rw [ne_eq, inReading_unsigned]
    omega

/-- Settles O14: splitting and assembling undo each other, on the id byte and on the payload. -/
theorem messageRoundTrip : Obligations.MessageRoundTrip :=
  fun c => ⟨unpackMessage_packMessage c, packMessage_unpackMessage c⟩

/-- Settles O8: the three bytes of the packed message. -/
theorem msgEncodePacksIdThenPayload : Obligations.MsgEncodePacksIdThenPayload :=
  fun t i p s => exec_msgEncode s t i p

/-- Settles O9: the fields of the unpacked message. -/
theorem msgDecodeSplitsIdAndPayload : Obligations.MsgDecodeSplitsIdAndPayload :=
  fun b s => exec_msgDecode s b

/-- Settles O10: membership in the enumeration of the type, which on this hardware is a list of eleven or an
interval. -/
theorem indexKnownSelectsTheEnumeration : Obligations.IndexKnownSelectsTheEnumeration := by
  refine ⟨fun t i s => ?selects, fun t i => ?values, knownPairs_length⟩
  case selects => rw [exec_indexKnown, isKnownIndex_eq]; rfl
  case values =>
    rw [isKnownIndex_eq, decide_eq_decide.2 (mem_paramIndex_hw i)]
    rfl

/-- Settles O11: the natural number of the bits, byte by byte. -/
theorem payloadUReadsUnsigned : Obligations.PayloadUReadsUnsigned :=
  fun p s => ⟨exec_payloadU s p, toNat_eq_payloadHi_payloadLo p, Nat.le_of_lt_succ p.isLt⟩

/-- Settles O12: bit 15 decides between the two readings. -/
theorem payloadSReadsTwosComplement : Obligations.PayloadSReadsTwosComplement :=
  fun p s => ⟨signedReading p, exec_payloadS s p, signedReading_of_bit15_clear, signedReading_of_bit15_set,
    signedReading_bounds p⟩

end Sys2Proof.Machine
end

section
/-! PROOFS. The frame codec: encoding, unpacking, the four flags of a window, the constraint of a frame row, and which
errors the flags see (41_frame_codec.md R120 to R127): O5, O15 to O22. -/

namespace Sys2Proof.Machine

open Sys2Proof.Config Sys2Proof.Safety

/-! ### The five operations, each as what it returns and no other change -/

section

variable (s : State)

theorem exec_xor8 (b : Bytes3) : exec (.xor8 b) s = .next (s.reply (.byte (checksum8 b)) []) := rfl

theorem exec_frameEncode (b : Bytes3) :
    exec (.frameEncode b) s = .next (s.reply (.bytes (bytes7List (packFrame s.config b))) []) := rfl

theorem exec_frameDecode (w : Bytes7) :
    exec (.frameDecode w) s = .next (s.reply (.frame (unpackFrame s.config w)) []) := rfl

theorem exec_frameStatus (w : Bytes7) :
    exec (.frameStatus w) s = .next (s.reply (.flags (windowFlags s.config w)) []) := rfl

theorem exec_frameIsvalid (w : Bytes7) :
    exec (.frameIsvalid w) s = .next (s.reply (.truth (windowValid s.config w)) []) := rfl

end

/-! ### The flags of a window -/

/-- Each flag is a condition on the bytes of the window (R123). -/
theorem windowFlags_eq (c : WireConfig) (w : Bytes7) :
    windowFlags c w = ⟨w.b0 == c.start, w.b5 == c.endMarker, w.b4 == (w.b1 ^^^ w.b2 ^^^ w.b3),
      isKnownIndex c (idType w.b1) (idIndex w.b1)⟩ := by
  simp [windowFlags, unpackFrame, unpackMessage, windowMessage, checksum8_eq]

/-- The terminator enters no flag (R70). -/
theorem windowFlags_terminator (c : WireConfig) (w : Bytes7) (t : Byte) :
    windowFlags c { w with b6 := t } = windowFlags c w := rfl

theorem windowValid_terminator (c : WireConfig) (w : Bytes7) (t : Byte) :
    windowValid c { w with b6 := t } = windowValid c w := by
  rw [windowValid, windowFlags_terminator, windowValid]

/-- A window of this hardware whose flags are `f`: each flag has a byte of its own, and the checksum follows the id
byte, which is 0x00 or the unknown 0x11. -/
def windowOfFlags (f : FrameFlags) : Bytes7 :=
  let id : Byte := if f.msgOk then 0x00 else 0x11
  ⟨if f.startOk then hw.start else ~~~hw.start, id, 0x00, 0x00, if f.cksumOk then id else ~~~id,
    if f.endOk then hw.endMarker else ~~~hw.endMarker, hw.term⟩

theorem windowFlags_windowOfFlags (f : FrameFlags) : windowFlags hw (windowOfFlags f) = f := by
  obtain ⟨start, endMarker, checksum, message⟩ := f
  revert start endMarker checksum message
  decide

/-- An encoded frame has its markers and its checksum, so only the message flag is open (R125). -/
theorem windowFlags_packFrame (c : WireConfig) (mb : Bytes3) :
    windowFlags c (packFrame c mb) = ⟨true, true, true, isKnownIndex c (idType mb.b0) (idIndex mb.b0)⟩ := by
  simp [windowFlags_eq, packFrame, checksum8_eq]

/-! ### The constraint of a frame row -/

theorem wellFormed_of_frameRow {c : WireConfig} {i : Instr} {r : FrameRow} (h : frameRow? i = some r) :
    i.wellFormed c = frameWellFormed c r := by
  simp [Instr.wellFormed, h]

/-- The markers of a row's window are the record's own, so the constraint of the row is all that validity asks. -/
theorem windowValid_rowWindow (c : WireConfig) (r : FrameRow) :
    windowValid c (rowWindow c (rowFields c r)) = frameWellFormed c r := by
  rw [Bool.eq_iff_iff, windowValid_iff]
  simp [rowWindow, rowFields, frameWellFormed, checksumAgrees, checksum8_eq, and_comm]

/-! ### Errors in a window -/

/-- Errors of the message bytes and of the checksum byte cancel in the checksum exactly when their XOR is zero
(R127). -/
theorem checksum_with_error_iff {m1 m2 m3 k e1 e2 e3 e4 : Byte} (h : k = m1 ^^^ m2 ^^^ m3) :
    k ^^^ e4 = (m1 ^^^ e1) ^^^ (m2 ^^^ e2) ^^^ (m3 ^^^ e3) ↔ e1 ^^^ e2 ^^^ e3 ^^^ e4 = 0 := by
  have hsplit : (m1 ^^^ e1) ^^^ (m2 ^^^ e2) ^^^ (m3 ^^^ e3) = k ^^^ (e1 ^^^ e2 ^^^ e3) := by rw [h]; ac_rfl
  rw [hsplit, BitVec.xor_right_inj, eq_comm]
  exact BitVec.xor_eq_zero_iff.symm

/-- Where the markers and the checksum were right, the flags after an error are conditions on the error bytes and on
the changed id byte. -/
theorem windowFlags_withError {c : WireConfig} {w : Bytes7} (e : Bytes7) (hstart : w.b0 = c.start)
    (hend : w.b5 = c.endMarker) (hck : w.b4 = w.b1 ^^^ w.b2 ^^^ w.b3) :
    windowFlags c (withError w e) = ⟨e.b0 == 0, e.b5 == 0, (e.b1 ^^^ e.b2 ^^^ e.b3 ^^^ e.b4) == 0,
      isKnownIndex c (idType (w.b1 ^^^ e.b1)) (idIndex (w.b1 ^^^ e.b1))⟩ := by
  have hmarker (a d : Byte) : (a ^^^ d == a) = (d == 0) := by
    rw [Bool.eq_iff_iff, beq_iff_eq, beq_iff_eq]; exact xor_left_eq_self_iff
  have hsum : (w.b4 ^^^ e.b4 == (w.b1 ^^^ e.b1) ^^^ (w.b2 ^^^ e.b2) ^^^ (w.b3 ^^^ e.b3)) =
      (e.b1 ^^^ e.b2 ^^^ e.b3 ^^^ e.b4 == 0) := by
    rw [Bool.eq_iff_iff, beq_iff_eq, beq_iff_eq]; exact checksum_with_error_iff hck
  rw [windowFlags_eq, withError, ← hstart, ← hend, hmarker, hmarker, hsum]

/-- The flags of an encoded frame after an error. -/
theorem windowFlags_packFrame_withError (c : WireConfig) (mb : Bytes3) (e : Bytes7) :
    windowFlags c (withError (packFrame c mb) e) = ⟨e.b0 == 0, e.b5 == 0, (e.b1 ^^^ e.b2 ^^^ e.b3 ^^^ e.b4) == 0,
      isKnownIndex c (idType (mb.b0 ^^^ e.b1)) (idIndex (mb.b0 ^^^ e.b1))⟩ :=
  windowFlags_withError e rfl rfl (checksum8_eq mb)

/-! A single flipped bit: where it stands, its byte is not zero and the other bytes are. -/

theorem bit_ne_zero (b : Fin 8) : (1#8 <<< b.val) ≠ 0 := by revert b; decide

theorem bitError_zero (b : Fin 8) : bitError 0 b = ⟨1#8 <<< b.val, 0, 0, 0, 0, 0, 0⟩ := rfl

theorem bitError_five (b : Fin 8) : bitError 5 b = ⟨0, 0, 0, 0, 0, 1#8 <<< b.val, 0⟩ := rfl

theorem bitError_six (b : Fin 8) : bitError 6 b = ⟨0, 0, 0, 0, 0, 0, 1#8 <<< b.val⟩ := rfl

/-- One flipped bit in a message byte or in the checksum byte does not cancel. -/
theorem bitError_checksum {k : Fin 7} (b : Fin 8) (h1 : 1 ≤ k) (h4 : k ≤ 4) :
    (bitError k b).b1 ^^^ (bitError k b).b2 ^^^ (bitError k b).b3 ^^^ (bitError k b).b4 = 1#8 <<< b.val := by
  revert k b; decide

section

variable (c : WireConfig) (mb : Bytes3) (b : Fin 8)

theorem startOk_bitError : (windowFlags c (withError (packFrame c mb) (bitError 0 b))).startOk = false := by
  rw [windowFlags_packFrame_withError, bitError_zero]
  exact beq_false_of_ne (bit_ne_zero b)

theorem endOk_bitError : (windowFlags c (withError (packFrame c mb) (bitError 5 b))).endOk = false := by
  rw [windowFlags_packFrame_withError, bitError_five]
  exact beq_false_of_ne (bit_ne_zero b)

theorem cksumOk_bitError {k : Fin 7} (h1 : 1 ≤ k) (h4 : k ≤ 4) :
    (windowFlags c (withError (packFrame c mb) (bitError k b))).cksumOk = false := by
  rw [windowFlags_packFrame_withError, bitError_checksum b h1 h4]
  exact beq_false_of_ne (bit_ne_zero b)

/-- A flipped bit in byte 6 changes the terminator only. -/
theorem withError_bitError_six (w : Bytes7) :
    withError w (bitError 6 b) = { w with b6 := w.b6 ^^^ 1#8 <<< b.val } := by
  simp [bitError_six, withError]

end

/-- Every position is the start marker, the end marker, the terminator, or between 1 and 4. -/
theorem byte_position : ∀ k : Fin 7, k = 0 ∨ k = 5 ∨ k = 6 ∨ (1 ≤ k ∧ k ≤ 4) := by decide

/-- A flipped bit anywhere but in the terminator clears a flag, so the window is not valid. -/
theorem windowValid_bitError (c : WireConfig) (mb : Bytes3) {k : Fin 7} (b : Fin 8) (hk : k ≠ 6) :
    windowValid c (withError (packFrame c mb) (bitError k b)) = false := by
  rcases byte_position k with rfl | rfl | rfl | ⟨h1, h4⟩
  · simp [windowValid, allOk, startOk_bitError]
  · simp [windowValid, allOk, endOk_bitError]
  · exact absurd rfl hk
  · simp [windowValid, allOk, cksumOk_bitError c mb b h1 h4]

/-! ### The obligations -/

/-- Settles O5: the window of a frame row has the record's markers, and the other conditions are the row's. -/
theorem wellFormedFramesAreValidWindows : Obligations.WellFormedFramesAreValidWindows := by
  intro c i f hf
  obtain ⟨r, hr, rfl⟩ := frameFields_eq_some.1 hf
  rw [wellFormed_of_frameRow hr, windowValid_rowWindow]

/-- Settles O20: the flags of an encoded frame, and the round trip of its message. -/
theorem encodedFramesAreValidExactlyWhenKnown : Obligations.EncodedFramesAreValidExactlyWhenKnown := by
  intro c mb m
  refine ⟨windowFlags_packFrame c mb, ?_, messageOf_unpackMessage_packMessage c m⟩
  rw [windowValid, windowFlags_packFrame]
  rfl

/-- Settles O21: a flipped bit clears the flag that reads its byte, and no flag reads byte 6. -/
theorem singleBitErrorsAreSeenButInTheTerminator : Obligations.SingleBitErrorsAreSeenButInTheTerminator := by
  intro c mb k b
  refine ⟨?start, ?endMarker, fun h1 h4 => cksumOk_bitError c mb b h1 h4, windowValid_bitError c mb b, ?terminator⟩
  case start => rintro rfl; exact startOk_bitError c mb b
  case endMarker => rintro rfl; exact endOk_bitError c mb b
  case terminator =>
    rintro rfl
    rw [withError_bitError_six, windowValid_terminator]

/-- Settles O22: in a valid window the markers and the checksum are right, so what the flags read after the error is
the error. -/
theorem undetectedErrorsAreTheEvenOnes : Obligations.UndetectedErrorsAreTheEvenOnes := by
  intro c w e hw
  obtain ⟨hstart, hend, hck, -⟩ := (windowValid_iff c w).1 hw
  rw [windowValid, windowFlags_withError e hstart hend hck]
  simp only [allOk, Bool.and_eq_true, beq_iff_eq, and_assoc]

/-- Settles O15: the running XOR from zero. -/
theorem xor8IsTheXorOfTheMessageBytes : Obligations.Xor8IsTheXorOfTheMessageBytes := by
  intro b s
  rw [exec_xor8, checksum8_eq]
  rfl

/-- Settles O16: the seven bytes of an encoded frame, under any record and under this hardware's. -/
theorem frameEncodeWrapsTheMessage : Obligations.FrameEncodeWrapsTheMessage := by
  intro b s
  have hany : exec (.frameEncode b) s = .next (s.reply (.bytes [s.config.start, b.b0, b.b1, b.b2,
      b.b0 ^^^ b.b1 ^^^ b.b2, s.config.endMarker, s.config.term]) []) := by
    rw [exec_frameEncode, packFrame, checksum8_eq]
    rfl
  refine ⟨hany, fun hhw => ?_⟩
  have hstart : s.config.start = 0x3A := congrArg WireConfig.start hhw
  have hend : s.config.endMarker = 0x3B := congrArg WireConfig.endMarker hhw
  have hterm : s.config.term = 0x0A := congrArg WireConfig.term hhw
  rw [hany, hstart, hend, hterm]
  rfl

/-- Settles O17: the fields of the frame record, by position. -/
theorem frameDecodeUnpacksPositionally : Obligations.FrameDecodeUnpacksPositionally :=
  fun w s => exec_frameDecode s w

/-- Settles O18: the four conditions, and a window for each of the 16 combinations. -/
theorem frameStatusGivesFourIndependentFlags : Obligations.FrameStatusGivesFourIndependentFlags := by
  refine ⟨fun w s => ?_, fun f => ⟨windowOfFlags f, windowFlags_windowOfFlags f⟩⟩
  rw [exec_frameStatus, windowFlags_eq]
  rfl

/-- Settles O19: validity condition by condition, whatever the terminator. -/
theorem frameIsvalidHasFourConditions : Obligations.FrameIsvalidHasFourConditions :=
  fun w s => ⟨windowValid s.config w, exec_frameIsvalid s w, windowValid_iff s.config w,
    windowValid_terminator s.config w⟩

end Sys2Proof.Machine
end

section
/-! PROOFS. One refill, one scan step with its five outcomes, and the consumer's step (42_synchronizer.md R141 to R147,
R149, R150, R154; 60_exceptions.md R211): O28, O30 to O37, O39, O44, O60. Inside a pass the dispatcher has one outcome;
`RX_SCAN`, the row of that outcome and the frame row of the window at the cursor all apply it. -/

namespace Sys2Proof.Machine

open Sys2Proof.Config Sys2Proof.Safety

section

variable {s : State}

/-! ### A refill, a scan step and the row of its outcome -/

/-- The row of the table for an outcome of `RX_SCAN` (R143 to R147). -/
def outcomeRow : ScanOutcome → Instr
  | .short => .rxScanShort
  | .discard => .rxScanDiscard
  | .wait _ => .rxScanWait
  | .emit _ _ => .rxScanEmit
  | .resync _ _ => .rxScanResync

/-- Where a refill is enabled it appends the chunk (R141). -/
theorem exec_rxAppend (chunk : List Byte) (h : s.canRefill = true) :
    exec (.rxAppend chunk) s = .next ((s.appendRx chunk).reply .none []) := by
  simp only [exec, execRxAppend, h, if_true]

theorem exec_rxScan (s : State) : exec .rxScan s = .next (scanStep s) := rfl

theorem exec_rxScan_outcome {o : ScanOutcome} (h : s.outcome? = some o) :
    exec .rxScan s = .next (applyOutcome o s) := by
  rw [exec_rxScan, scanStep_outcome h]

/-- Where its outcome applies, an outcome row applies it (log entry 11). -/
theorem exec_outcomeRow {o : ScanOutcome} (h : s.outcome? = some o) :
    exec (outcomeRow o) s = .next (applyOutcome o s) := by
  cases o with
  | short => simp only [outcomeRow, exec, execRxScanShort, h]
  | discard => simp only [outcomeRow, exec, execRxScanDiscard, h]
  | wait p => simp only [outcomeRow, exec, execRxScanWait, h]
  | emit p w => simp only [outcomeRow, exec, execRxScanEmit, h]
  | resync p w => simp only [outcomeRow, exec, execRxScanResync, h]

theorem exec_rxScan_eq_outcomeRow {o : ScanOutcome} (h : s.outcome? = some o) :
    exec .rxScan s = exec (outcomeRow o) s := by
  rw [exec_rxScan_outcome h, exec_outcomeRow h]

/-! ### The outcome of each test (R142) -/

section

variable (hlink : s.link = .opened) (hphase : s.phase = .scanning)

include hlink hphase

theorem outcome_of_scan : s.outcome? = some (scan s.config s.rxbuf) :=
  outcome_eq_some.2 ⟨hlink, hphase, rfl⟩

theorem outcome_short (hlen : s.rxbuf.length < s.config.frameLen) : s.outcome? = some .short := by
  rw [outcome_of_scan hlink hphase, scan_short.2 hlen]

theorem outcome_discard (hlen : s.config.frameLen ≤ s.rxbuf.length) (hnone : firstIndex s.config.start s.rxbuf = none) :
    s.outcome? = some .discard := by
  rw [outcome_of_scan hlink hphase, scan_discard.2 ⟨hlen, hnone⟩]

variable {p : Nat} (hfound : firstIndex s.config.start s.rxbuf = some p)

include hfound

theorem outcome_wait (hlen : s.config.frameLen ≤ s.rxbuf.length) (hrest : s.rxbuf.length - p < s.config.frameLen) :
    s.outcome? = some (.wait p) := by
  have hmissing : windowAt s.config s.rxbuf p = none := windowAt_eq_none.2 (.inl (by omega))
  rw [outcome_of_scan hlink hphase, scan_wait.2 ⟨hlen, hfound, hmissing⟩]

variable {w : Bytes7} (hwindow : windowAt s.config s.rxbuf p = some w)

include hwindow

theorem outcome_emit (hvalid : windowValid s.config w = true) : s.outcome? = some (.emit p w) := by
  rw [outcome_of_scan hlink hphase, scan_emit.2 ⟨hfound, hwindow, hvalid⟩]

theorem outcome_resync (hinvalid : windowValid s.config w = false) : s.outcome? = some (.resync p w) := by
  rw [outcome_of_scan hlink hphase, scan_resync.2 ⟨hfound, hwindow, hinvalid⟩]

end

/-! ### When a scan step is enabled -/

theorem canScan_of_outcome {o : ScanOutcome} (h : s.outcome? = some o) (hroom : s.room = true ∨ ∀ p w, o ≠ .emit p w) :
    s.canScan = true := by
  unfold State.canScan
  cases o with
  | emit p w => simpa [h] using hroom
  | _ => simp [h]

/-- A scan step is held inside a pass only before an EMIT that has no room (R150). -/
theorem emit_held_of_canScan_false (hpass : s.inPass = true) (h : s.canScan = false) :
    s.room = false ∧ ∃ p w, scan s.config s.rxbuf = .emit p w := by
  obtain ⟨hlink, hphase⟩ := inPass_iff.1 hpass
  have ho := outcome_of_scan hlink hphase
  by_contra hn
  have hc := canScan_of_outcome ho (by simpa [or_iff_not_imp_left] using hn)
  rw [h] at hc
  cases hc

theorem inPass_of_canScan (h : s.canScan = true) : s.inPass = true := by
  by_contra hn
  simp [State.canScan, State.outcome?, hn] at h

/-- A scan step that is not held returns nothing. -/
theorem scanStep_result (h : s.canScan = true) : (scanStep s).result = .none := by
  obtain ⟨hlink, hphase⟩ := inPass_iff.1 (inPass_of_canScan h)
  have ho := outcome_of_scan hlink hphase
  rw [scanStep_outcome ho]
  unfold State.canScan at h
  rw [ho] at h
  cases hs : scan s.config s.rxbuf with
  | emit p w =>
    rw [hs] at h
    simp only [applyOutcome, takeFrame_room h, reply_result]
  | _ => rfl

/-- A full queue has no room (R150). -/
theorem room_false_iff : s.room = false ↔ ∃ cap, s.msgqCap = some cap ∧ cap ≤ s.msgq.length := by
  rw [← Bool.not_eq_true, room_iff]
  simp

/-- Inside a pass the close holds (R173). -/
theorem exec_linkClose_scanning (hlink : s.link = .opened) (hphase : s.phase = .scanning) :
    exec .linkClose s = .next s.hold := by
  simp only [exec, execLinkClose, hlink, hphase]

/-! ### Frame rows at the scan cursor -/

/-- The row of the window at the cursor does what `RX_SCAN` does there (log entry 9). -/
theorem receiveFrame_eq_scanStep {p : Nat} {f : FrameFields} (h : s.window? = some (p, rowWindow s.config f)) :
    receiveFrame f s = scanStep s := by
  rw [receiveFrame_window h, scanStep_outcome (window_outcome h)]
  cases windowValid s.config (rowWindow s.config f) <;> rfl

/-- The synchronizer's own step is `RX_SCAN`: a window that is a row runs it, one that is none is rejected, and without a
window there is nothing to decode (R69, R147). -/
theorem scanTurn_eq_rxScan (hc : s.config.wf = true) : scanTurn s = exec .rxScan s := by
  unfold scanTurn
  cases hw : s.window? with
  | none => rfl
  | some q =>
    obtain ⟨p, w⟩ := q
    cases hd : decodeFrame s.config w with
    | ok i =>
      obtain ⟨f, hf, rfl⟩ := rowWindow_of_decodeFrame hc hd
      simp only [hd, exec_frame hf, exec_rxScan, receiveFrame_eq_scanStep hw]
    | error e =>
      simp only [hd, exec_rxScan_outcome (window_undecoded hw hd)]
      rfl

end

/-! ### Dropping one byte at a time (R154) -/

theorem iterate_drop_one (k : Nat) (l : List Byte) : (List.drop 1)^[k] l = l.drop k := by
  have htail : (List.drop 1 : List Byte → List Byte) = List.tail := funext fun _ => List.drop_one
  rw [htail, List.tail_iterate]

/-- With some of the bytes in front of the marker gone, the same window is rejected. -/
theorem scan_drop_resync {c : WireConfig} {l : List Byte} {p k : Nat} {w : Bytes7} (h : scan c l = .resync p w)
    (hk : k ≤ p) : scan c (l.drop k) = .resync (p - k) w := by
  obtain ⟨hfound, hwindow, hinvalid⟩ := scan_resync.1 h
  refine scan_resync.2 ⟨firstIndex_drop hfound hk, ?_, hinvalid⟩
  rw [windowAt_drop, Nat.add_sub_cancel' hk, hwindow]

/-! ### The obligations -/

/-- Settles O28: the window of the row stands at the cursor, so the row does what the scan step does, which rejects it. -/
theorem invalidFrameRowsAreRejected : Obligations.InvalidFrameRowsAreRejected := by
  intro i f s p hf hlink hphase hfound hwindow hinvalid
  have ho := outcome_resync hlink hphase hfound hwindow hinvalid
  rw [exec_frame hf, receiveFrame_eq_scanStep (window_eq_some.2 (.inr ho)), scanStep_outcome ho]
  simp only [applyOutcome, rejectWindow, windowFlags_eq, rowWindow, beq_self_eq_true]
  rfl

/-- Settles O31: each test leads to its outcome, and `RX_SCAN` is the row of that outcome. -/
theorem rxScanTakesTheOneOutcomeThatApplies : Obligations.RxScanTakesTheOneOutcomeThatApplies := by
  intro s hc hlink hphase
  split_ifs with hshort
  · exact exec_rxScan_eq_outcomeRow (outcome_short hlink hphase hshort)
  have hlen : s.config.frameLen ≤ s.rxbuf.length := Nat.le_of_not_lt hshort
  cases hfound : firstIndex s.config.start s.rxbuf with
  | none => exact exec_rxScan_eq_outcomeRow (outcome_discard hlink hphase hlen hfound)
  | some p =>
    dsimp only
    split_ifs with hrest
    · exact exec_rxScan_eq_outcomeRow (outcome_wait hlink hphase hfound hlen hrest)
    · have hp := firstIndex_lt hfound
      have hwhole : windowAt s.config s.rxbuf p ≠ none := fun h => by have := (windowAt_none_wf hc).1 h; omega
      obtain ⟨w, hwindow⟩ := Option.ne_none_iff_exists'.1 hwhole
      refine ⟨w, hwindow, ?_⟩
      split_ifs with hvalid
      · exact exec_rxScan_eq_outcomeRow (outcome_emit hlink hphase hfound hwindow hvalid)
      · exact exec_rxScan_eq_outcomeRow
          (outcome_resync hlink hphase hfound hwindow (Bool.eq_false_of_not_eq_true hvalid))

/-- Settles O30: with the link open before a refill, the refill is enabled (R141). -/
theorem rxAppendAppendsTheChunk : Obligations.RxAppendAppendsTheChunk := by
  intro chunk s hlink hphase
  exact exec_rxAppend chunk (canRefill_iff.2 ⟨hlink, hphase⟩)

/-- Settles O32: fewer bytes than a frame are outcome SHORT. -/
theorem rxScanShortEndsThePass : Obligations.RxScanShortEndsThePass := by
  intro s hlink hphase hlen
  have ho := outcome_short hlink hphase hlen
  exact ⟨exec_outcomeRow ho, exec_rxScan_eq_outcomeRow ho⟩

/-- Settles O33: enough bytes without a marker are outcome DISCARD. -/
theorem rxScanDiscardEmptiesTheBuffer : Obligations.RxScanDiscardEmptiesTheBuffer := by
  intro s hlink hphase hlen hnone
  have ho := outcome_discard hlink hphase hlen (firstIndex_eq_none.2 hnone)
  exact ⟨exec_outcomeRow ho, exec_rxScan_eq_outcomeRow ho⟩

/-- Settles O34: too few bytes from the marker on are outcome WAIT. -/
theorem rxScanWaitKeepsTheBuffer : Obligations.RxScanWaitKeepsTheBuffer := by
  intro s p hlink hphase hlen hfound hrest
  have ho := outcome_wait hlink hphase hfound hlen hrest
  exact ⟨exec_outcomeRow ho, exec_rxScan_eq_outcomeRow ho⟩

/-- Settles O35: a valid window at the marker is outcome EMIT, and there is room for it. -/
theorem rxScanEmitTakesTheWindow : Obligations.RxScanEmitTakesTheWindow := by
  rintro s p w m hlink hphase hfound hwindow hvalid hroom rfl
  have ho := outcome_emit hlink hphase hfound hwindow hvalid
  refine ⟨?_, exec_rxScan_eq_outcomeRow ho⟩
  refine (exec_outcomeRow ho).trans ?_
  rw [applyOutcome, takeFrame_room (room_iff.2 hroom), Nat.add_assoc]
  rfl

/-- Settles O36: an invalid window at the marker is outcome RESYNC. -/
theorem rxScanResyncDropsThroughTheMarker : Obligations.RxScanResyncDropsThroughTheMarker := by
  intro s p w hlink hphase hfound hwindow hinvalid
  have ho := outcome_resync hlink hphase hfound hwindow hinvalid
  refine ⟨?_, exec_rxScan_eq_outcomeRow ho⟩
  refine (exec_outcomeRow ho).trans ?_
  simp only [applyOutcome, rejectWindow, windowFlags_eq]
  rfl

/-- Settles O37: a full queue has no room for the EMIT, and one message less is room; where there is room, or none is
needed, the step is enabled and returns nothing. -/
theorem fullQueueHoldsTheEmit : Obligations.FullQueueHoldsTheEmit := by
  constructor
  · intro s p w cap hcap hlink hphase hfound hwindow hvalid hcapacity hfull
    have ho := outcome_emit hlink hphase hfound hwindow hvalid
    have hnoroom : s.room = false := room_false_iff.2 ⟨cap, hcapacity, hfull.ge⟩
    refine ⟨?scan, ?close, ?pop⟩
    case scan =>
      rw [exec_rxScan_outcome ho, applyOutcome, takeFrame_full hnoroom]
      rfl
    case close => exact exec_linkClose_scanning hlink hphase
    case pop =>
      obtain ⟨m, ms, hq⟩ := List.exists_cons_of_length_pos (hfull ▸ hcap)
      have hroom : (s.popMsg.reply (.message m) []).room = true :=
        room_iff.2 fun cap' h => by
          obtain rfl : cap = cap' := Option.some.inj (hcapacity.symm.trans h)
          simp; omega
      exact ⟨_, congrArg Host.Outcome.next (popStep_cons hq), canScan_of_outcome (o := .emit p w) ho (.inl hroom)⟩
  · intro s hlink hphase hfree
    refine ⟨_, exec_rxScan s, scanStep_result (canScan_of_outcome (outcome_of_scan hlink hphase) ?_)⟩
    exact hfree.imp_left fun hunbounded => room_iff.2 fun cap h => by rw [hunbounded] at h; cases h

/-- Settles O39: a non-empty queue gives its head, an empty one holds the consumer. -/
theorem msgqPopTakesTheOldestMessage : Obligations.MsgqPopTakesTheOldestMessage := by
  constructor
  · intro s m ms hq
    have hrest : s.msgq.drop 1 = ms := by rw [hq]; rfl
    refine (congrArg Host.Outcome.next (popStep_cons hq)).trans ?_
    rw [State.popMsg, hrest]
    rfl
  · intro s hq
    exact congrArg Host.Outcome.next (popStep_nil hq)

/-- Settles O44: single drops are one drop, in front of the marker and through it. -/
theorem otherReadingOfTheResyncMeetsTheSameWindow : Obligations.OtherReadingOfTheResyncMeetsTheSameWindow := by
  intro c buf p w h
  refine ⟨fun k hk => ?_, iterate_drop_one (p + 1) buf⟩
  rw [iterate_drop_one]
  exact scan_drop_resync h hk

/-- Settles O60: with no command to take, a step inside a pass is the synchronizer's own. -/
theorem fetchDecodeRunIsRxScan : Obligations.FetchDecodeRunIsRxScan := by
  intro s hc hpick hlink hphase
  have hpass : s.inPass = true := inPass_iff.2 ⟨hlink, hphase⟩
  rw [step, hpick]
  simp only [hpass, if_true]
  exact scanTurn_eq_rxScan hc

end Sys2Proof.Machine
end

section
/-! PROOFS. A pass is a refill and the scan steps that end it (42_synchronizer.md R148, R150): O38. The loop of `RX_PASS`
runs the scan steps one by one, with their labels collected in front; each step but the last shortens the buffer, so the
fuel of the loop does not end first. -/

namespace Sys2Proof.Machine

open Sys2Proof.Config Sys2Proof.Safety

/-! ### Scan steps in a row -/

theorem scans_succ (k : Nat) (s : State) : scans (k + 1) s = scans k (scanStep s) := rfl

/-- The labels of the first `k` scan steps, in order (R208). -/
def scanLabels (k : Nat) (s : State) : List Label := (List.range k).flatMap fun j => (scans (j + 1) s).labels

theorem scanLabels_succ (k : Nat) (s : State) :
    scanLabels (k + 1) s = (scanStep s).labels ++ scanLabels k (scanStep s) := by
  simp only [scanLabels, List.range_succ_eq_map, List.flatMap_cons, List.flatMap_map]
  rfl

/-- `k` scan steps from `s`, each enabled, after which none is: those of a pass. -/
structure PassScans (k : Nat) (s : State) : Prop where
  bound : k ≤ max 1 (s.rxbuf.length - 5)
  goes : ∀ j < k, (scans j s).canScan = true
  stops : (scans k s).canScan = false
  link : (scans k s).link = s.link
  msgqCap : (scans k s).msgqCap = s.msgqCap

theorem PassScans.zero {s : State} (h : s.canScan = false) : PassScans 0 s where
  bound := Nat.zero_le _
  goes j hj := absurd hj (Nat.not_lt_zero j)
  stops := h
  link := rfl
  msgqCap := rfl

/-- An enabled step in front; if it does not end the pass it shortens the buffer. -/
theorem PassScans.succ {k : Nat} {s : State} (hc : s.config.wf = true) (h : s.canScan = true)
    (hk : PassScans k (scanStep s)) : PassScans (k + 1) s := by
  obtain ⟨hlink, hcap, -, -, hturn⟩ := scanStep_turn hc h
  refine ⟨?bound, ?goes, hk.stops, hk.link.trans hlink, hk.msgqCap.trans hcap⟩
  case bound =>
    have hbound := hk.bound
    rcases hturn with hended | ⟨-, hwhole, hshorter⟩
    · have hzero : k = 0 := by
        by_contra hn
        have hpass := inPass_of_canScan (hk.goes 0 (Nat.pos_of_ne_zero hn))
        have hscanning : (scanStep s).phase = .scanning := (inPass_iff.1 hpass).2
        rw [hended] at hscanning
        cases hscanning
      omega
    · omega
  case goes =>
    rintro (- | j) hj
    · exact h
    · exact hk.goes j (Nat.lt_of_succ_lt_succ hj)

/-- Behind the scan steps of a pass the pass has ended, or an EMIT finds no room (R150). -/
theorem PassScans.outcome {k : Nat} {s : State} (h : PassScans k s) (hlink : s.link = .opened) :
    (scans k s).phase = .refill ∨ (scans k s).phase = .scanning ∧ (scans k s).room = false ∧
      ∃ p w, scan (scans k s).config (scans k s).rxbuf = .emit p w := by
  cases hphase : (scans k s).phase with
  | refill => exact .inl rfl
  | scanning =>
    have hpass : (scans k s).inPass = true := inPass_iff.2 ⟨h.link.trans hlink, hphase⟩
    exact .inr ⟨rfl, emit_held_of_canScan_false hpass h.stops⟩

/-! ### The loop of a pass -/

/-- The loop is the scan steps of a pass, where its fuel is more than the buffer; the labels already collected stand in
front of theirs. -/
theorem scanLoop_eq_scans {n : Nat} {s : State} (hc : s.config.wf = true) (hn : s.rxbuf.length < n)
    (collected : List Label) : ∃ k, PassScans k s ∧
      scanLoop n (s.reply .none collected) = (scans k s).reply .none (collected ++ scanLabels k s) := by
  induction n generalizing s collected with
  | zero => exact absurd hn (Nat.not_lt_zero _)
  | succ n ih =>
    have hread : (s.reply .none collected).canScan = s.canScan := rfl
    cases hscan : s.canScan with
    | false =>
      refine ⟨0, .zero hscan, ?_⟩
      simp [scanLoop, hread, hscan, scanLabels, scans]
    | true =>
      obtain ⟨-, -, hconfig, hresult, hturn⟩ := scanStep_turn hc hscan
      have hloop : scanLoop (n + 1) (s.reply .none collected) =
          scanLoop n ((scanStep s).reply .none (collected ++ (scanStep s).labels)) := by
        simp [scanLoop, hread, hscan, hresult]
      suffices hrest : ∃ k, PassScans k (scanStep s) ∧
          scanLoop n ((scanStep s).reply .none (collected ++ (scanStep s).labels)) =
            (scans k (scanStep s)).reply .none (collected ++ (scanStep s).labels ++ scanLabels k (scanStep s)) by
        obtain ⟨k, hk, heq⟩ := hrest
        exact ⟨k + 1, hk.succ hc hscan, by rw [hloop, heq, scans_succ, scanLabels_succ, List.append_assoc]⟩
      rcases hturn with hended | ⟨-, -, hshorter⟩
      · have hstops : (scanStep s).canScan = false := by simp [State.canScan, State.outcome?, State.inPass, hended]
        refine ⟨0, .zero hstops, ?_⟩
        rw [scanLoop_refill n ((reply_phase _ _ _).trans hended)]
        simp [scanLabels, scans]
      · exact ih (hconfig ▸ hc) (by omega) _

/-- A pass is the scan steps behind its refill; its result says whether they have ended it (log entry 16). -/
theorem passStep_eq_scans {chunk : List Byte} {s a : State} (hc : s.config.wf = true) (hrefill : s.canRefill = true)
    (ha : (s.appendRx chunk).reply .none [] = a) : ∃ k, PassScans k a ∧
      passStep chunk s = (scans k a).reply (if (scans k a).phase = .refill then .none else .hold) (scanLabels k a) := by
  have hfuel : a.rxbuf.length < s.rxbuf.length + chunk.length + 1 := by simp [← ha]
  obtain ⟨k, hk, hloop⟩ := scanLoop_eq_scans (s := a) (by rw [← ha]; exact hc) hfuel []
  have hsilent : a.reply .none [] = a := by rw [← ha]; rfl
  rw [hsilent, List.nil_append] at hloop
  refine ⟨k, hk, ?_⟩
  simp only [passStep, hrefill, if_true, ha, hloop, reply_phase]
  split_ifs <;> rfl

/-! ### The obligation -/

/-- Settles O38: the scan steps of the pass, and where they leave it. -/
theorem rxPassIsARefillAndTheScansThatEndIt : Obligations.RxPassIsARefillAndTheScansThatEndIt := by
  intro chunk s hc hlink hphase
  have hrefill : s.canRefill = true := canRefill_iff.2 ⟨hlink, hphase⟩
  obtain ⟨a, ha⟩ : ∃ a, (s.appendRx chunk).reply .none [] = a := ⟨_, rfl⟩
  have happend : exec (.rxAppend chunk) s = .next a := ha ▸ exec_rxAppend chunk hrefill
  have hbuf : a.rxbuf = s.rxbuf ++ chunk := by rw [← ha]; rfl
  have hopened : a.link = .opened := by rw [← ha]; exact hlink
  have hscanning : a.phase = .scanning := by rw [← ha]; rfl
  have hcapacity : a.msgqCap = s.msgqCap := by rw [← ha]; rfl
  obtain ⟨k, hk, hpass⟩ := passStep_eq_scans hc hrefill ha
  refine ⟨k, a, _, happend, congrArg Host.Outcome.next hpass, hbuf ▸ hk.bound, rfl,
    fun j hj => ⟨(inPass_iff.1 (inPass_of_canScan (hk.goes j hj))).2, hk.goes j hj⟩, rfl, ?_⟩
  rcases hk.outcome hopened with hended | ⟨hinside, hfull, hemit⟩
  · have hpositive : 1 ≤ k := Nat.pos_of_ne_zero fun hzero => by
      rw [hzero, scans, hscanning] at hended
      cases hended
    exact ⟨.inl ⟨hended, hpositive, if_pos hended⟩, fun _ => hended⟩
  · obtain ⟨cap, hcap, hlen⟩ := room_false_iff.1 hfull
    rw [hk.msgqCap.trans hcapacity] at hcap
    have hheld : ¬ (scans k a).phase = .refill := by rw [hinside]; exact Phase.noConfusion
    exact ⟨.inr ⟨hinside, if_neg hheld, hk.stops, cap, hcap, hlen, hemit⟩, fun hunbounded => by
      rw [hunbounded] at hcap; cases hcap⟩

end Sys2Proof.Machine
end

section
/-! PROOFS. The induction over the reachable states (60_exceptions.md R217), packaged once. -/

namespace Sys2Proof.Machine

open Sys2Proof.Config Sys2Proof.Safety

/-- What holds at reset, is not touched by waiting inputs and is kept by the updates of every allowed instruction, holds
of every state that such instructions bring about. -/
theorem reachable_keeps {allowed : Instr → Prop} {P : State → Prop}
    (hreset : ∀ (cap : Option Nat) (c : WireConfig), cap ≠ some 0 → c.wf = true →
      P { State.reset with msgqCap := cap, config := c })
    (hinputs : ∀ s cs, P s → P { s with inbox := cs }) (hkept : ∀ i, allowed i → Kept i P) {s : State}
    (h : ReachableBy allowed s) : P s := by
  induction h with
  | reset cap c hcap hc => exact hreset cap c hcap hc
  | inputs s cs _ ih => exact hinputs s cs ih
  | exec i s t _ hi h ih => exact exec_keeps (hkept i hi) h ih

end Sys2Proof.Machine
end

section
/-! PROOFS. The synchronizer is a greedy scanner of the received stream (42_synchronizer.md R151, R152): O40 to O42. What
the scanner finds from a cursor on depends on the bytes behind the cursor alone, so it is a function of a byte sequence,
`messagesIn`. That what was received holds the messages emitted and then those still in the buffer, whatever follows, is
kept by every update while the link is open. -/

namespace Sys2Proof.Machine

open Sys2Proof.Config Sys2Proof.Safety

/-- The message that EMIT takes from a window (R146). -/
def messageIn (c : WireConfig) (w : Bytes7) : Message := messageOf (unpackMessage c (windowMessage w))

/-- What the greedy scanner finds in a byte sequence (R151). -/
def messagesIn (c : WireConfig) (l : List Byte) : List Message := greedy c l 0 []

/-! ### One turn of the scanner -/

section

variable {c : WireConfig} {h : List Byte} {fuel cur : Nat} {out : List Message}

theorem greedyFrom_no_marker (hnone : firstIndex c.start (h.drop cur) = none) :
    greedyFrom c h (fuel + 1) cur out = out := by
  simp only [greedyFrom, hnone]

variable {p : Nat} (hfound : firstIndex c.start (h.drop cur) = some p)

include hfound

theorem greedyFrom_no_window (hwindow : windowAt c (h.drop cur) p = none) :
    greedyFrom c h (fuel + 1) cur out = out := by
  rw [windowAt_drop] at hwindow
  simp only [greedyFrom, hfound, hwindow]

variable {w : Bytes7} (hwindow : windowAt c (h.drop cur) p = some w)

include hwindow

theorem greedyFrom_valid (hvalid : windowValid c w = true) :
    greedyFrom c h (fuel + 1) cur out = greedyFrom c h fuel (cur + (p + c.frameLen)) (out ++ [messageIn c w]) := by
  rw [windowAt_drop] at hwindow
  simp only [greedyFrom, hfound, hwindow, hvalid, if_true, Nat.add_assoc, messageIn]

theorem greedyFrom_invalid (hinvalid : windowValid c w = false) :
    greedyFrom c h (fuel + 1) cur out = greedyFrom c h fuel (cur + (p + 1)) out := by
  rw [windowAt_drop] at hwindow
  simp only [greedyFrom, hfound, hwindow, hinvalid, Bool.false_eq_true, if_false, Nat.add_assoc]

end

/-- In front of given bytes the scanner stops, or moves over some of them and adds some messages, wherever it stands. -/
theorem greedyFrom_turn {c : WireConfig} (hc : c.wf = true) (l : List Byte) :
    (∀ h fuel cur out, h.drop cur = l → greedyFrom c h (fuel + 1) cur out = out) ∨
    ∃ k ms, 0 < k ∧ k ≤ l.length ∧ ∀ h fuel cur out, h.drop cur = l →
      greedyFrom c h (fuel + 1) cur out = greedyFrom c h fuel (cur + k) (out ++ ms) := by
  cases hfound : firstIndex c.start l with
  | none => exact .inl fun h fuel cur out hl => greedyFrom_no_marker (by rw [hl, hfound])
  | some p =>
    cases hwindow : windowAt c l p with
    | none =>
      exact .inl fun h fuel cur out hl => greedyFrom_no_window (by rw [hl, hfound]) (by rw [hl, hwindow])
    | some w =>
      have hwhole := windowAt_length hwindow
      have hlen := frameLen_eq hc
      cases hvalid : windowValid c w with
      | true =>
        exact .inr ⟨p + c.frameLen, [messageIn c w], by omega, by omega, fun h fuel cur out hl =>
          greedyFrom_valid (by rw [hl, hfound]) (by rw [hl, hwindow]) hvalid⟩
      | false =>
        exact .inr ⟨p + 1, [], by omega, by omega, fun h fuel cur out hl => by
          rw [List.append_nil, greedyFrom_invalid (by rw [hl, hfound]) (by rw [hl, hwindow]) hvalid]⟩

/-- The scanner appends to its output, and from a cursor on it sees the bytes behind the cursor only; any fuel above
their number is enough. -/
theorem greedyFrom_eq {c : WireConfig} (hc : c.wf = true) {h l : List Byte} {n m cur : Nat} (out : List Message)
    (hl : h.drop cur = l) (hn : l.length < n) (hm : l.length < m) :
    greedyFrom c h n cur out = out ++ greedyFrom c l m 0 [] := by
  induction hlen : l.length using Nat.strong_induction_on generalizing h l n m cur out with
  | _ len ih =>
    obtain ⟨n, rfl⟩ := Nat.exists_eq_add_one_of_ne_zero (Nat.ne_zero_of_lt hn)
    obtain ⟨m, rfl⟩ := Nat.exists_eq_add_one_of_ne_zero (Nat.ne_zero_of_lt hm)
    rcases greedyFrom_turn hc l with hstop | ⟨k, ms, hk, hkl, hmove⟩
    · rw [hstop _ _ _ _ hl, hstop _ _ _ _ List.drop_zero, List.append_nil]
    · have hrest : (l.drop k).length = l.length - k := List.length_drop
      have hfind {h' : List Byte} {n' cur' : Nat} (out' : List Message) (hl' : h'.drop cur' = l.drop k)
          (hn' : (l.drop k).length < n') :
          greedyFrom c h' n' cur' out' = out' ++ greedyFrom c (l.drop k) m 0 [] :=
        ih _ (by omega) out' hl' hn' (by omega) rfl
      rw [hmove _ _ _ _ hl, hmove _ _ _ _ List.drop_zero, hfind (out ++ ms) (by rw [← hl, List.drop_drop]) (by omega),
        hfind ([] ++ ms) (by rw [Nat.zero_add]) (by omega), List.nil_append, List.append_assoc]

/-! ### What is found in a byte sequence -/

section

variable {c : WireConfig} {l : List Byte}

theorem messagesIn_no_marker (hnone : firstIndex c.start l = none) : messagesIn c l = [] :=
  greedyFrom_no_marker hnone

variable {p : Nat}

theorem messagesIn_no_window (hfound : firstIndex c.start l = some p) (hwindow : windowAt c l p = none) :
    messagesIn c l = [] :=
  greedyFrom_no_window hfound hwindow

/-- Fewer bytes than a frame hold no message. -/
theorem messagesIn_short (hlen : l.length < c.frameLen) : messagesIn c l = [] := by
  cases hfound : firstIndex c.start l with
  | none => exact messagesIn_no_marker hfound
  | some p => exact messagesIn_no_window hfound (windowAt_eq_none.2 (.inl (by omega)))

variable (hc : c.wf = true)

include hc

theorem greedyFrom_eq_messagesIn {k : Nat} (hk : 0 < k) (hkl : k ≤ l.length) (out : List Message) :
    greedyFrom c l l.length (0 + k) out = out ++ messagesIn c (l.drop k) :=
  greedyFrom_eq hc out (by rw [Nat.zero_add]) (by rw [List.length_drop]; omega) (Nat.lt_succ_self _)

variable {w : Bytes7} (hfound : firstIndex c.start l = some p) (hwindow : windowAt c l p = some w)

include hfound hwindow

theorem messagesIn_valid (hvalid : windowValid c w = true) :
    messagesIn c l = messageIn c w :: messagesIn c (l.drop (p + c.frameLen)) := by
  have hwhole := windowAt_length hwindow
  have hlen := frameLen_eq hc
  exact (greedyFrom_valid hfound hwindow hvalid).trans (greedyFrom_eq_messagesIn hc (by omega) (by omega) _)

theorem messagesIn_invalid (hinvalid : windowValid c w = false) :
    messagesIn c l = messagesIn c (l.drop (p + 1)) := by
  have hwhole := windowAt_length hwindow
  exact (greedyFrom_invalid hfound hwindow hinvalid).trans (greedyFrom_eq_messagesIn hc (by omega) (by omega) _)

end

/-! ### What is found when more bytes arrive -/

section

variable {c : WireConfig} (hc : c.wf = true) {l : List Byte} (more : List Byte)

include hc

/-- Bytes without a marker hide nothing of what follows. -/
theorem messagesIn_append_of_no_marker (hnone : firstIndex c.start l = none) :
    messagesIn c (l ++ more) = messagesIn c more := by
  have hsearch := firstIndex_append_of_none hnone more
  have hrest (p k : Nat) : (l ++ more).drop (p + l.length + k) = more.drop (p + k) := by
    rw [Nat.add_right_comm, Nat.add_comm, List.drop_length_add_append]
  have hread (p : Nat) : windowAt c (l ++ more) (p + l.length) = windowAt c more p := by
    rw [Nat.add_comm, ← windowAt_drop, List.drop_left]
  cases hfound : firstIndex c.start more with
  | none =>
    rw [hfound] at hsearch
    rw [messagesIn_no_marker hfound, messagesIn_no_marker hsearch]
  | some p =>
    rw [hfound] at hsearch
    cases hwindow : windowAt c more p with
    | none => rw [messagesIn_no_window hfound hwindow, messagesIn_no_window hsearch ((hread p).trans hwindow)]
    | some w =>
      cases hvalid : windowValid c w with
      | true =>
        rw [messagesIn_valid hc hfound hwindow hvalid, messagesIn_valid hc hsearch ((hread p).trans hwindow) hvalid,
          hrest]
      | false =>
        rw [messagesIn_invalid hc hfound hwindow hvalid, messagesIn_invalid hc hsearch ((hread p).trans hwindow) hvalid,
          hrest]

variable {p : Nat} {w : Bytes7} (hfound : firstIndex c.start l = some p) (hwindow : windowAt c l p = some w)

include hfound hwindow

/-- A valid window is found, and the search goes on behind it. -/
theorem messagesIn_append_of_valid (hvalid : windowValid c w = true) :
    messagesIn c (l ++ more) = messageIn c w :: messagesIn c (l.drop (p + c.frameLen) ++ more) := by
  rw [messagesIn_valid hc (firstIndex_append hfound more) (windowAt_append hwindow more) hvalid,
    List.drop_append_of_le_length (windowAt_length hwindow).1]

/-- An invalid window is passed over by its marker (R147). -/
theorem messagesIn_append_of_invalid (hinvalid : windowValid c w = false) :
    messagesIn c (l ++ more) = messagesIn c (l.drop (p + 1) ++ more) := by
  rw [messagesIn_invalid hc (firstIndex_append hfound more) (windowAt_append hwindow more) hinvalid,
    List.drop_append_of_le_length (firstIndex_lt hfound)]

end

/-- Messages once found stay found (R151). -/
theorem messagesIn_append {c : WireConfig} (hc : c.wf = true) (l more : List Byte) :
    messagesIn c l <+: messagesIn c (l ++ more) := by
  induction hlen : l.length using Nat.strong_induction_on generalizing l with
  | _ len ih =>
    have hdrop (k : Nat) : (l.drop k).length = l.length - k := List.length_drop
    cases hfound : firstIndex c.start l with
    | none => rw [messagesIn_no_marker hfound]; exact List.nil_prefix
    | some p =>
      cases hwindow : windowAt c l p with
      | none => rw [messagesIn_no_window hfound hwindow]; exact List.nil_prefix
      | some w =>
        have hwhole := windowAt_length hwindow
        cases hvalid : windowValid c w with
        | true =>
          rw [messagesIn_valid hc hfound hwindow hvalid, messagesIn_append_of_valid hc more hfound hwindow hvalid,
            List.prefix_cons_inj]
          exact ih _ (by rw [hdrop, frameLen_eq hc]; omega) _ rfl
        | false =>
          rw [messagesIn_invalid hc hfound hwindow hvalid, messagesIn_append_of_invalid hc more hfound hwindow hvalid]
          exact ih _ (by rw [hdrop]; omega) _ rfl

/-! ### Resynchronisation (R152) -/

theorem messagesIn_window {c : WireConfig} (hc : c.wf = true) {w : Bytes7} (hvalid : windowValid c w = true) :
    messagesIn c (bytes7List w) = [messageIn c w] := by
  obtain ⟨hstart, -⟩ := (windowValid_iff c w).1 hvalid
  have hfound : firstIndex c.start (bytes7List w) = some 0 := by simp [bytes7List, firstIndex, hstart]
  have hwindow : windowAt c (bytes7List w) 0 = some w := by simp [windowAt, bytes7List, frameLen_eq hc]
  rw [messagesIn_valid hc hfound hwindow hvalid, frameLen_eq hc]
  rfl

/-- Where every window at a marker of the bytes in front is invalid, the valid frame behind them is found, and nothing
else. -/
theorem messagesIn_resync {c : WireConfig} (hc : c.wf = true) {good : Bytes7} (hgood : windowValid c good = true)
    (front : List Byte) (hfront : ∀ k < front.length, front[k]? = some c.start →
      ∃ w, windowAt c (front ++ bytes7List good) k = some w ∧ windowValid c w = false) :
    messagesIn c (front ++ bytes7List good) = [messageIn c good] := by
  induction hlen : front.length using Nat.strong_induction_on generalizing front with
  | _ len ih =>
    cases hfound : firstIndex c.start front with
    | none => rw [messagesIn_append_of_no_marker hc _ hfound, messagesIn_window hc hgood]
    | some p =>
      have hp := firstIndex_lt hfound
      obtain ⟨w, hwindow, hinvalid⟩ := hfront p hp (firstIndex_eq_some.1 hfound).1
      have hrest : (front ++ bytes7List good).drop (p + 1) = front.drop (p + 1) ++ bytes7List good :=
        List.drop_append_of_le_length hp
      rw [messagesIn_invalid hc (firstIndex_append hfound _) hwindow hinvalid, hrest]
      refine ih _ (by rw [List.length_drop]; omega) _ (fun k hk hmarker => ?_) rfl
      rw [List.length_drop] at hk
      rw [List.getElem?_drop] at hmarker
      rw [← hrest, windowAt_drop]
      exact hfront _ (by omega) hmarker

/-! ### The stream that the machine receives -/

/-- With the link open, what was received holds, whatever follows, the messages emitted and then those that the buffer
still holds; before a refill the buffer holds none. -/
structure EmitsGreedily (s : State) : Prop where
  constants : s.config.wf = true
  stream : s.link = .opened → ∀ more,
    messagesIn s.config (s.rxhist ++ more) = s.emitted ++ messagesIn s.config (s.rxbuf ++ more)
  ended : s.phase = .refill → s.emitted = messagesIn s.config s.rxhist

/-- A pass may end where the buffer holds no message. -/
theorem EmitsGreedily.endPass {s : State} (h : EmitsGreedily s) (hlink : s.link = .opened)
    (hempty : messagesIn s.config s.rxbuf = []) : EmitsGreedily s.endPass where
  constants := h.constants
  stream := h.stream
  ended _ := by
    have hnow := h.stream hlink []
    rw [List.append_nil, List.append_nil, hempty, List.append_nil] at hnow
    exact hnow.symm

theorem EmitsGreedily.update {i : Instr} {s u : State} (h : EmitsGreedily s) (hu : Update i s u) : EmitsGreedily u := by
  have hc := h.constants
  cases hu with
  | append chunk _ hrefill =>
    refine ⟨hc, fun hlink more => ?_, Phase.noConfusion⟩
    simp only [appendRx_rxhist, appendRx_rxbuf, appendRx_config, appendRx_emitted, List.append_assoc]
    exact h.stream hlink (chunk ++ more)
  | short _ ho =>
    obtain ⟨hlink, -, hs⟩ := outcome_eq_some.1 ho
    exact h.endPass hlink (messagesIn_short (scan_short.1 hs))
  | discard _ ho =>
    obtain ⟨hlink, -, hs⟩ := outcome_eq_some.1 ho
    have hnone := (scan_discard.1 hs).2
    have hdropped : EmitsGreedily s.discardAll := by
      refine ⟨hc, fun _ more => ?_, h.ended⟩
      exact (h.stream hlink more).trans (congrArg (s.emitted ++ ·) (messagesIn_append_of_no_marker hc more hnone))
    exact hdropped.endPass hlink rfl
  | wait p _ ho =>
    obtain ⟨hlink, -, hs⟩ := outcome_eq_some.1 ho
    obtain ⟨-, hfound, hwindow⟩ := scan_wait.1 hs
    exact h.endPass hlink (messagesIn_no_window hfound hwindow)
  | take p w _ ho _ =>
    obtain ⟨hlink, hphase, hs⟩ := outcome_eq_some.1 ho
    obtain ⟨hfound, hwindow, hvalid⟩ := scan_emit.1 hs
    refine ⟨hc, fun _ more => ?_, fun hended => Phase.noConfusion (hphase.symm.trans hended)⟩
    refine (h.stream hlink more).trans ?_
    rw [messagesIn_append_of_valid hc more hfound hwindow hvalid]
    simp [messageIn]
  | reject p w _ ho =>
    obtain ⟨hlink, hphase, hs⟩ := outcome_eq_some.1 ho
    obtain ⟨hfound, hwindow, hinvalid⟩ := scan_resync.1 hs
    refine ⟨hc, fun _ more => ?_, fun hended => Phase.noConfusion (hphase.symm.trans hended)⟩
    exact (h.stream hlink more).trans
      (congrArg (s.emitted ++ ·) (messagesIn_append_of_invalid hc more hfound hwindow hinvalid))
  | pop m ms _ _ => exact ⟨hc, h.stream, h.ended⟩
  | send t j q _ _ => exact ⟨hc, h.stream, h.ended⟩
  | opens _ _ => exact ⟨hc, fun _ _ => rfl, fun _ => rfl⟩
  | closes _ _ _ => exact ⟨hc, Link.noConfusion, h.ended⟩
  | clears _ => exact ⟨hc, Link.noConfusion, fun _ => rfl⟩

theorem kept_emitsGreedily (i : Instr) : Kept i EmitsGreedily where
  reply _ _ _ h := ⟨h.constants, h.stream, h.ended⟩
  update _ _ h hu := h.update hu

theorem emitsGreedily_of_reachable {s : State} (h : Reachable s) : EmitsGreedily s :=
  reachable_keeps (fun _ _ _ hc => ⟨hc, Link.noConfusion, fun _ => rfl⟩)
    (fun _ _ h => ⟨h.constants, h.stream, h.ended⟩) (fun i _ => kept_emitsGreedily i) h

/-! ### The obligations -/

/-- Settles O40: every reachable state emits greedily. -/
theorem emittedIsTheGreedyScanOfTheStream : Obligations.EmittedIsTheGreedyScanOfTheStream :=
  fun _ h hphase => (emitsGreedily_of_reachable h).ended hphase

/-- Settles O41: messages once found stay found. -/
theorem moreBytesOnlyAddMessages : Obligations.MoreBytesOnlyAddMessages := by
  intro c h h' hc
  obtain ⟨ms, hms⟩ := messagesIn_append hc h h'
  exact ⟨ms, hms.symm⟩

/-- Settles O42: the sufficient condition leaves the first byte as the only marker of the corrupted frame, and the window
there is that frame; in the counterexample the window at offset 1 is valid up to its terminator, which is the marker of
the frame behind. -/
theorem resyncAfterACorruptedFrame : Obligations.ResyncAfterACorruptedFrame := by
  refine ⟨?anyMarker, ?firstMarker, ?counterexample⟩
  case anyMarker =>
    intro c bad good hc _ hgood hmarkers
    exact messagesIn_resync hc hgood (bytes7List bad) hmarkers
  case firstMarker =>
    intro c bad good hc hbad hgood hnone
    refine messagesIn_resync hc hgood (bytes7List bad) fun k hk hmarker => ?_
    cases k with
    | zero => exact ⟨bad, windowAt_eq_some.2 ⟨by simp [bytes7List, frameLen_eq hc], _, rfl⟩, hbad⟩
    | succ k =>
      refine absurd (List.mem_of_getElem? (i := k) ?_) hnone
      rw [List.getElem?_drop, Nat.add_comm]
      exact hmarker
  case counterexample =>
    intro good _
    have hvalid (t : Byte) : windowValid hw ⟨0x3A, 0x00, 0x00, 0x00, 0x00, 0x3B, t⟩ = true :=
      (windowValid_terminator hw ⟨0x3A, 0x00, 0x00, 0x00, 0x00, 0x3B, 0x0A⟩ t).trans (by decide)
    refine (messagesIn_valid (p := 1) hw_wf rfl rfl (hvalid good.b0)).trans ?_
    have hmessage : messageIn hw ⟨0x3A, 0x00, 0x00, 0x00, 0x00, 0x3B, good.b0⟩ = ⟨0, 0, 0⟩ := by
      change messageOf (unpackMessage hw ⟨0x00, 0x00, 0x00⟩) = _
      decide
    rw [hmessage, messagesIn_short (by simp [bytes7List, hw])]

end Sys2Proof.Machine
end

section
/-! PROOFS. The receive buffer is bounded where the refills are (42_synchronizer.md R153): O43. Before a refill at most a
frame less one byte is left, or that much behind a first marker that waits; a refill adds its own length to that, and a
waiting marker does not move until its window is whole. -/

namespace Sys2Proof.Machine

open Sys2Proof.Config Sys2Proof.Safety

/-! ### What a buffer may hold -/

/-- The buffer holds at most six bytes and `extra`, or at most that from a first marker on, with at most `L + 5` bytes in
front of it. -/
def Occupied (L extra : Nat) (c : WireConfig) (l : List Byte) : Prop :=
  l.length ≤ 6 + extra ∨ ∃ p, firstIndex c.start l = some p ∧ p ≤ L + 5 ∧ l.length ≤ p + 6 + extra

section

variable {L extra : Nat} {c : WireConfig} {l : List Byte}

theorem Occupied.length_le (h : Occupied L extra c l) : l.length ≤ L + 11 + extra := by
  rcases h with hshort | ⟨p, -, hfront, hlen⟩ <;> omega

/-- A refill adds at most its own length, and moves no marker. -/
theorem Occupied.append (h : Occupied L 0 c l) {chunk : List Byte} (hchunk : chunk.length ≤ L) :
    Occupied L L c (l ++ chunk) := by
  rcases h with hshort | ⟨p, hfound, hfront, hlen⟩
  · exact .inl (by rw [List.length_append]; omega)
  · exact .inr ⟨p, firstIndex_append hfound chunk, hfront, by rw [List.length_append]; omega⟩

/-- Behind the first marker at most five bytes and the last refill are left. -/
theorem Occupied.length_sub_le (h : Occupied L extra c l) {p : Nat} (hfound : firstIndex c.start l = some p) :
    l.length - p ≤ 6 + extra := by
  rcases h with hshort | ⟨q, hq, -, hlen⟩
  · omega
  · obtain rfl : p = q := Option.some.inj (hfound.symm.trans hq)
    omega

/-- Dropping the first marker and what is in front of it leaves a short buffer. -/
theorem Occupied.drop (h : Occupied L extra c l) {p : Nat} (hfound : firstIndex c.start l = some p) (k : Nat) :
    Occupied L extra c (l.drop (p + k)) :=
  have hrest := h.length_sub_le hfound
  .inl (by rw [List.length_drop]; omega)

/-- A marker that waits stands where the refill that brought it put it. -/
theorem Occupied.wait (h : Occupied L L c l) {p : Nat} (hfound : firstIndex c.start l = some p)
    (hrest : l.length < p + 7) : Occupied L 0 c l := by
  have hp := firstIndex_lt hfound
  refine .inr ⟨p, hfound, ?_, by omega⟩
  rcases h with hshort | ⟨q, hq, hfront, -⟩
  · omega
  · obtain rfl : p = q := Option.some.inj (hfound.symm.trans hq)
    exact hfront

end

/-! ### The buffer of the machine -/

/-- What the buffer holds in each phase, with refills of at most `L` bytes. -/
structure BufferBounded (L : Nat) (s : State) : Prop where
  constants : s.config.wf = true
  waiting : s.phase = .refill → Occupied L 0 s.config s.rxbuf
  scanning : s.phase = .scanning → Occupied L L s.config s.rxbuf

theorem occupied_nil (L : Nat) (c : WireConfig) : Occupied L 0 c [] := .inl (Nat.zero_le _)

/-- An update that stands before a refill, and is given what it then holds. -/
theorem BufferBounded.of_refill {L : Nat} {s : State} (hc : s.config.wf = true) (hphase : s.phase = .refill)
    (h : Occupied L 0 s.config s.rxbuf) : BufferBounded L s :=
  ⟨hc, fun _ => h, fun hscanning => Phase.noConfusion (hphase.symm.trans hscanning)⟩

theorem BufferBounded.of_scanning {L : Nat} {s : State} (hc : s.config.wf = true) (hphase : s.phase = .scanning)
    (h : Occupied L L s.config s.rxbuf) : BufferBounded L s :=
  ⟨hc, fun hrefill => Phase.noConfusion (hphase.symm.trans hrefill), fun _ => h⟩

theorem BufferBounded.update {L : Nat} {i : Instr} {s u : State} (h : BufferBounded L s) (hi : refillAtMost L i)
    (hu : Update i s u) : BufferBounded L u := by
  have hc := h.constants
  have hframe := frameLen_eq hc
  cases hu with
  | append chunk hrow hrefill =>
    have hchunk : chunk.length ≤ L := by rcases hrow with rfl | rfl <;> exact hi
    exact .of_scanning hc rfl ((h.waiting (canRefill_iff.1 hrefill).2).append hchunk)
  | short _ ho =>
    obtain ⟨-, -, hs⟩ := outcome_eq_some.1 ho
    have hlen := scan_short.1 hs
    exact .of_refill hc rfl (.inl (by simp; omega))
  | discard _ _ => exact .of_refill hc rfl (occupied_nil L _)
  | wait p _ ho =>
    obtain ⟨-, hphase, hs⟩ := outcome_eq_some.1 ho
    obtain ⟨-, hfound, hwindow⟩ := scan_wait.1 hs
    have hrest := (windowAt_none_wf hc).1 hwindow
    exact .of_refill hc rfl ((h.scanning hphase).wait hfound (hframe ▸ hrest))
  | take p w _ ho _ =>
    obtain ⟨-, hphase, hs⟩ := outcome_eq_some.1 ho
    exact .of_scanning hc hphase ((h.scanning hphase).drop (scan_emit.1 hs).1 _)
  | reject p w _ ho =>
    obtain ⟨-, hphase, hs⟩ := outcome_eq_some.1 ho
    exact .of_scanning hc hphase ((h.scanning hphase).drop (scan_resync.1 hs).1 _)
  | pop m ms _ _ => exact ⟨hc, h.waiting, h.scanning⟩
  | send t j q _ _ => exact ⟨hc, h.waiting, h.scanning⟩
  | opens _ _ => exact .of_refill hc rfl (occupied_nil L _)
  | closes _ _ hphase => exact .of_refill hc hphase (occupied_nil L _)
  | clears _ => exact .of_refill hc rfl (occupied_nil L _)

theorem kept_bufferBounded {L : Nat} {i : Instr} (hi : refillAtMost L i) : Kept i (BufferBounded L) where
  reply _ _ _ h := ⟨h.constants, h.waiting, h.scanning⟩
  update _ _ h hu := h.update hi hu

theorem bufferBounded_of_reachable {L : Nat} {s : State} (h : ReachableBy (refillAtMost L) s) : BufferBounded L s :=
  reachable_keeps (fun _ _ _ hc => .of_refill hc rfl (occupied_nil L _))
    (fun _ _ h => ⟨h.constants, h.waiting, h.scanning⟩) (fun _ hi => kept_bufferBounded hi) h

/-! ### The obligation -/

/-- Settles O43: at most six bytes wait behind a marker, at most `L + 5` in front of it, and a refill adds `L`. -/
theorem bufferOccupancyIsBounded : Obligations.BufferOccupancyIsBounded := by
  intro L s h
  have hs := bufferBounded_of_reachable h
  refine ⟨fun hphase => (hs.waiting hphase).length_le, ?_⟩
  cases hphase : s.phase with
  | refill => have := (hs.waiting hphase).length_le; omega
  | scanning => have := (hs.scanning hphase).length_le; omega

end Sys2Proof.Machine
end

section
/-! PROOFS. The transmit path, the link and reset, and which instruction a step runs (43_transmit_and_link.md R170 to R174,
60_exceptions.md section 3, 70_reset_and_hazards.md R231, R239): O45 to O49, O59. Each operation has one equation per case
of the link; a step is described by what `pick` takes out of the inbox. -/

namespace Sys2Proof.Machine

open Sys2Proof.Config

section

variable {s : State}

/-! ### The transmit path (R170, R171) -/

/-- The frame of a message, byte by byte: markers around the id byte, the payload and their XOR (R121). -/
theorem sentBytes_eq (c : WireConfig) (type : TypeCode) (index : Index) (payload : Payload) :
    sentBytes c type index payload = [c.start, idByte type index, payloadHi payload, payloadLo payload,
      idByte type index ^^^ payloadHi payload ^^^ payloadLo payload, c.endMarker, c.term] := by
  rw [sentBytes, packFrame, checksum8_eq]
  rfl

theorem exec_txSend_opened (hlink : s.link = .opened) (type : TypeCode) (index : Index) (payload : Payload) :
    exec (.txSend type index payload) s =
      .next ((s.transmit (sentBytes s.config type index payload)).reply .success []) := by
  simp only [exec, execTxSend, hlink]

theorem exec_txSend_closed (hlink : s.link = .closed) (type : TypeCode) (index : Index) (payload : Payload) :
    exec (.txSend type index payload) s = .next (s.reply .failure [.failLinkClosed]) := by
  simp only [exec, execTxSend, hlink]

/-- On a closed link the row of the closed-link case is `TX_SEND` itself (R171). -/
theorem exec_txSendClosed_eq_txSend (hlink : s.link = .closed) (type : TypeCode) (index : Index) (payload : Payload) :
    exec (.txSendClosed type index payload) s = exec (.txSend type index payload) s := by
  simp only [exec, execTxSend, execTxSendClosed, hlink]

/-! ### The link and reset (R172 to R174) -/

theorem exec_linkOpen_opened (hlink : s.link = .opened) (answer : Bool) :
    exec (.linkOpen answer) s = .next (s.reply .failure [.failLinkAlreadyOpen]) := by
  simp only [exec, execLinkOpen, hlink]

theorem exec_linkOpen_refused (hlink : s.link = .closed) :
    exec (.linkOpen false) s = .next (s.reply .failure [.failOpenRefused]) := by
  simp only [exec, execLinkOpen, hlink]

theorem exec_linkOpen_granted (hlink : s.link = .closed) :
    exec (.linkOpen true) s = .next (s.openLink.reply .success []) := by
  simp only [exec, execLinkOpen, hlink]

theorem exec_linkClose_closed (hlink : s.link = .closed) :
    exec .linkClose s = .next (s.reply .failure [.failLinkClosed]) := by
  simp only [exec, execLinkClose, hlink]

theorem exec_linkClose_refill (hlink : s.link = .opened) (hphase : s.phase = .refill) :
    exec .linkClose s = .next (s.closeLink.reply .success []) := by
  simp only [exec, execLinkClose, hlink, hphase]

theorem exec_reset (s : State) : exec .reset s = .next (s.clearAll.reply .none []) := rfl

/-! ### What `pick` takes -/

/-- A packed message is always enabled: it is decoded to a bare message row (R101). -/
theorem enabled_decodeMessage (c : WireConfig) (b : Bytes3) (s : State) : enabled (decodeMessage c b) s = true := by
  unfold decodeMessage messageRow
  split <;> rfl

/-- No earlier command holds back the head of the inbox, so it is taken where it is enabled. -/
theorem pick_head {c : Command} (h : enabled (commandInstr s.config c) s = true) (cs : List Command) :
    pick s [] (c :: cs) = some (commandInstr s.config c, cs) := by
  rw [pick_cons, if_pos ⟨.inr List.not_mem_nil, h⟩]

/-- A `RESET` is taken behind commands of which none can be, whoever is held back (R174, R239). -/
theorem pick_reset_behind (a : Agent) (rest : List Command) {front : List Command} {held : List Agent}
    (h : pick s held front = none) :
    pick s held (front ++ ⟨a, .call .reset⟩ :: rest) = some (.reset, front ++ rest) := by
  induction front generalizing held with
  | nil => exact (pick_cons ..).trans (if_pos ⟨.inl rfl, rfl⟩)
  | cons c cs ih =>
    rw [pick_cons] at h
    rw [List.cons_append, pick_cons]
    split_ifs at h ⊢ with htaken
    rw [ih (Option.map_eq_none_iff.1 h)]
    rfl

/-! ### What a step runs -/

/-- A step runs the command that it takes out of the inbox. -/
theorem step_of_pick {i : Instr} {rest : List Command} (h : pick s [] s.inbox = some (i, rest)) :
    step s = exec i { s with inbox := rest } := by
  simp only [step, h]

/-- With no command to take, a step inside a pass is the synchronizer's own. -/
theorem step_of_inPass (hpick : pick s [] s.inbox = none) (hpass : s.inPass = true) : step s = scanTurn s := by
  simp only [step, hpick, hpass, if_true]

/-- With no command to take and no pass to go on with, a step changes only the outputs (R231). -/
theorem step_idle (hpick : pick s [] s.inbox = none) (hpass : s.inPass = false) :
    step s = .next (s.reply (if s.inbox.isEmpty then .none else .hold) []) := by
  simp only [step, hpick, hpass, Bool.false_eq_true, if_false]
  split <;> rfl

/-- A window is fetched only inside a pass. -/
theorem inPass_of_window {p : Nat} {w : Bytes7} (h : s.window? = some (p, w)) : s.inPass = true := by
  obtain ⟨hlink, hphase, -⟩ := outcome_eq_some.1 (window_outcome h)
  exact inPass_iff.2 ⟨hlink, hphase⟩

theorem scanTurn_of_decode {p : Nat} {w : Bytes7} {i : Instr} (hw : s.window? = some (p, w))
    (hd : decodeFrame s.config w = .ok i) : scanTurn s = exec i s := by
  simp only [scanTurn, hw, hd]

end

/-! ### The obligations -/

/-- Settles O45: the seven bytes of the message's frame, under the state's record and under this hardware's. -/
theorem txSendAppendsOneFrame : Obligations.TxSendAppendsOneFrame := by
  rintro type index payload _ _ _ s hlink rfl rfl rfl
  refine ⟨?_, fun hhw => ?_⟩
  · rw [exec_txSend_opened hlink, sentBytes_eq]
    rfl
  · have hsent := (congrArg (sentBytes · type index payload) hhw).trans (sentBytes_eq hw type index payload)
    rw [exec_txSend_opened hlink, hsent]
    rfl

/-- Settles O46: the closed-link case, which both rows share. -/
theorem txSendOnAClosedLinkFails : Obligations.TxSendOnAClosedLinkFails := by
  intro type index payload s hlink
  rw [exec_txSendClosed_eq_txSend hlink]
  exact ⟨exec_txSend_closed hlink type index payload, exec_txSend_closed hlink type index payload⟩

/-- Settles O47: an open link, a refused answer and a granted one. -/
theorem linkOpenStartsAnEmptyReceiver : Obligations.LinkOpenStartsAnEmptyReceiver := by
  intro answer s
  refine ⟨fun hlink => exec_linkOpen_opened hlink answer, ?refused, ?granted⟩
  case refused => rintro hlink rfl; exact exec_linkOpen_refused hlink
  case granted => rintro hlink rfl; exact exec_linkOpen_granted hlink

/-- Settles O48: a closed link, an open one before a refill, and one inside a pass. -/
theorem linkCloseDropsTheBuffer : Obligations.LinkCloseDropsTheBuffer :=
  fun _ => ⟨exec_linkClose_closed, exec_linkClose_refill, exec_linkClose_scanning⟩

/-- Settles O49: the writes of `RESET`, in every state. -/
theorem resetWritesAllOfTheState : Obligations.ResetWritesAllOfTheState := exec_reset

/-- Settles O59: what `pick` takes is run, a `RESET` behind commands that hold included; with nothing to take, the window
at the cursor is; with no pass either, only outputs are recorded. -/
theorem stepRunsTheDecodedInstruction : Obligations.StepRunsTheDecodedInstruction := by
  refine ⟨?window, ?packed, ?call, ?reset, ?idle⟩
  case window =>
    intro s p w i hpick hw hd
    rw [step_of_inPass hpick (inPass_of_window hw), scanTurn_of_decode hw hd]
  case packed =>
    intro s a b rest i hin hd
    obtain rfl : decodeMessage s.config b = i := Except.ok.inj hd
    exact step_of_pick (hin ▸ pick_head (c := ⟨a, .packed b⟩) (enabled_decodeMessage s.config b s) rest)
  case call =>
    intro s a i rest hin henabled
    exact step_of_pick (hin ▸ pick_head (c := ⟨a, .call i⟩) henabled rest)
  case reset =>
    intro s a front rest hin hfront
    exact step_of_pick (hin ▸ pick_reset_behind a rest hfront)
  case idle =>
    intro s hpick hpass
    exact ⟨_, step_idle hpick hpass⟩

end Sys2Proof.Machine
end

section
/-! PROOFS. The wire messages of each data type (44_wire_messages.md R185 to R188): O24 to O27. The four types differ in
their code, their rows and their enumeration only, so the argument is made once, for any type: a row of the type stands
for the type's code and its index, its window is valid where the index is known, and such a window is emitted. -/

namespace Sys2Proof.Machine

open Sys2Proof.Config Sys2Proof.Safety

/-! ### The rows of a type -/

theorem frameRow_typeRow (r : FrameRow) : frameRow? (typeRow r) = some r := by
  obtain ⟨type, index, payload, checksum, terminator⟩ := r
  cases type <;> rfl

/-- A per-id row stands for its type, for the index it is listed with and for its free fields (R67). -/
theorem frameRow_of_mem_idRows {type : MessageType} {index : Index} {row : Payload → Byte → Byte → Instr}
    (h : (index, row) ∈ idRows type) (payload : Payload) (checksum terminator : Byte) :
    frameRow? (row payload checksum terminator) = some ⟨type, index, payload, checksum, terminator⟩ := by
  have hlist : (idRows type).map (fun e => frameRow? (e.2 payload checksum terminator)) =
      (idRows type).map (fun e => some ⟨type, e.1, payload, checksum, terminator⟩) := by cases type <;> rfl
  exact List.map_inj_left.1 hlist _ h

/-- The per-id rows of a type and its per-type row all stand for the type and the index (R66, R67). -/
theorem frameRow_of_type {type : MessageType} {index : Index} {row : Payload → Byte → Byte → Instr}
    (h : (index, row) ∈ idRows type ∨ row = fun payload checksum terminator =>
      typeRow ⟨type, index, payload, checksum, terminator⟩)
    (payload : Payload) (checksum terminator : Byte) :
    frameRow? (row payload checksum terminator) = some ⟨type, index, payload, checksum, terminator⟩ := by
  rcases h with hid | rfl
  · exact frameRow_of_mem_idRows hid payload checksum terminator
  · exact frameRow_typeRow _

/-! ### The bytes of a frame row -/

/-- The mask of R63 changes nothing in an index of 6 bits. -/
theorem idByte_eq_or (type : TypeCode) (index : Index) :
    idByte type index = (type.setWidth 8 <<< 6) ||| index.setWidth 8 := by
  revert type index; decide

theorem encode_of_frameRow {i : Instr} {r : FrameRow} (h : frameRow? i = some r) (c : WireConfig) :
    encode c i = some (bytes7List (rowWindow c (rowFields c r))) :=
  encode_frame (frameFields_eq_some.2 ⟨r, h, rfl⟩)

theorem frameWellFormed_iff {c : WireConfig} {r : FrameRow} :
    frameWellFormed c r = true ↔ isKnownIndex c (c.code r.type) r.index = true ∧
      r.checksum = idByte (c.code r.type) r.index ^^^ payloadHi r.payload ^^^ payloadLo r.payload := by
  simp [frameWellFormed, checksumAgrees, rowFields, checksum8_eq]

/-- The message in the window of a frame row is the row's: it carries no trace of the frame (R146). -/
theorem messageOf_rowWindow (c : WireConfig) (r : FrameRow) :
    messageOf (unpackMessage c (windowMessage (rowWindow c (rowFields c r)))) =
      ⟨c.code r.type, r.index, r.payload⟩ :=
  messageOf_unpackMessage_packMessage c ⟨c.code r.type, r.index, r.payload⟩

/-- An index outside the enumeration of its type makes the window invalid, whatever its other bytes (R68, R124). -/
theorem windowValid_unknown_index {c : WireConfig} {type : TypeCode} {index : Index}
    (h : isKnownIndex c type index = false) (b0 b2 b3 b4 b5 b6 : Byte) :
    windowValid c ⟨b0, (type.setWidth 8 <<< 6) ||| index.setWidth 8, b2, b3, b4, b5, b6⟩ = false := by
  rw [← idByte_eq_or, Bool.eq_false_iff, ne_eq, windowValid_iff]
  rintro ⟨-, -, -, hknown⟩
  rw [idType_idByte, idIndex_idByte, h] at hknown
  cases hknown

/-! ### A frame row at the scan cursor -/

/-- A frame row that keeps its constraint is emitted where its window stands at the cursor and there is room (R146). -/
theorem exec_frameRow_emit {s : State} {i : Instr} {r : FrameRow} {p : Nat} (hrow : frameRow? i = some r)
    (hwellFormed : frameWellFormed s.config r = true) (hlink : s.link = .opened) (hphase : s.phase = .scanning)
    (hfound : firstIndex s.config.start s.rxbuf = some p)
    (hwindow : windowAt s.config s.rxbuf p = some (rowWindow s.config (rowFields s.config r)))
    (hroom : s.room = true) :
    exec i s =
      .next (((s.pushMsg ⟨s.config.code r.type, r.index, r.payload⟩).dropHead (p + s.config.frameLen)).reply .none
        [.emit ⟨s.config.code r.type, r.index, r.payload⟩]) := by
  have hvalid := (windowValid_rowWindow s.config r).trans hwellFormed
  have ho := outcome_emit hlink hphase hfound hwindow hvalid
  calc exec i s
    _ = .next (receiveFrame (rowFields s.config r) s) := exec_frame (frameFields_eq_some.2 ⟨r, hrow, rfl⟩)
    _ = .next (takeFrame p (rowWindow s.config (rowFields s.config r)) s) := by
      rw [receiveFrame_eq_scanStep (window_eq_some.2 (.inl ho)), scanStep_outcome ho, applyOutcome]
    _ = _ := by rw [takeFrame_room hroom, messageOf_rowWindow]

/-- What R185 to R188 say of a data type: its rows, with a known index, encode to the frame of their message, are
emitted on receive, and the message is framed on transmit. -/
theorem frames_of_type_emitted_and_sent {s : State} {type : MessageType} {index : Index}
    {row : Payload → Byte → Byte → Instr}
    (hrow : (index, row) ∈ idRows type ∨ row = fun payload checksum terminator =>
      typeRow ⟨type, index, payload, checksum, terminator⟩)
    (hknown : isKnownIndex s.config (s.config.code type) index = true)
    (payload : Payload) (terminator id hi lo cks : Byte) (p : Nat)
    (hid : id = ((s.config.code type).setWidth 8 <<< 6) ||| index.setWidth 8)
    (hhi : hi = payloadHi payload) (hlo : lo = payloadLo payload) (hcks : cks = id ^^^ hi ^^^ lo) :
    encode s.config (row payload cks terminator) =
      some [s.config.start, id, hi, lo, cks, s.config.endMarker, terminator] ∧
    (s.link = .opened → s.phase = .scanning → firstIndex s.config.start s.rxbuf = some p →
      windowAt s.config s.rxbuf p = some ⟨s.config.start, id, hi, lo, cks, s.config.endMarker, terminator⟩ →
      (∀ cap, s.msgqCap = some cap → s.msgq.length < cap) →
      exec (row payload cks terminator) s =
        .next (((s.pushMsg ⟨s.config.code type, index, payload⟩).dropHead (p + s.config.frameLen)).reply .none
          [.emit ⟨s.config.code type, index, payload⟩])) ∧
    (s.link = .opened →
      exec (.txSend (s.config.code type) index payload) s =
        .next ((s.transmit [s.config.start, id, hi, lo, cks, s.config.endMarker, s.config.term]).reply
          .success [])) := by
  rw [← idByte_eq_or] at hid
  subst hid hhi hlo hcks
  have hframe := frameRow_of_type hrow payload
    (idByte (s.config.code type) index ^^^ payloadHi payload ^^^ payloadLo payload) terminator
  refine ⟨encode_of_frameRow hframe s.config, fun hlink hphase hfound hwindow hroom => ?emit, fun hlink => ?send⟩
  case emit =>
    exact exec_frameRow_emit hframe (frameWellFormed_iff.2 ⟨hknown, rfl⟩) hlink hphase hfound hwindow
      (room_iff.2 hroom)
  case send => rw [exec_txSend_opened hlink, sentBytes_eq]

/-! ### The enumerations of this hardware -/

/-- On this hardware every type but STATUS has the interval of parameter indices (R6). -/
theorem isKnownIndex_hw_param {type : MessageType} (h : type ≠ .status) (index : Index) :
    isKnownIndex hw (hw.code type) index = true ↔ index.toNat ≤ 0x10 := by
  have hcode : hw.code type ≠ hw.status := by
    cases type with
    | status => exact absurd rfl h
    | _ => decide
  rw [isKnownIndex_eq, if_neg hcode, decide_eq_true_iff, mem_paramIndex_hw]

theorem isKnownIndex_status (c : WireConfig) (index : Index) :
    isKnownIndex c c.status index = true ↔ index ∈ c.statusIndex := by
  rw [isKnownIndex_eq, if_pos rfl, decide_eq_true_iff]

/-! ### The obligations -/

/-- Settles O24: the rows of the type RESPONSE; on this hardware the code 0 and the parameter indices. -/
theorem responseFramesAreEmittedAndSent : Obligations.ResponseFramesAreEmittedAndSent :=
  ⟨fun _ _ _ hrow hknown => frames_of_type_emitted_and_sent (type := .response) hrow hknown,
    fun _ _ b2 b3 b4 b6 h => windowValid_unknown_index h _ b2 b3 b4 _ b6,
    fun index => ⟨rfl, isKnownIndex_hw_param (type := .response) (by decide) index⟩⟩

/-- Settles O25: the rows of the type STATUS; on this hardware the code 1 and the status indices. -/
theorem statusFramesAreEmittedAndSent : Obligations.StatusFramesAreEmittedAndSent :=
  ⟨fun _ _ _ hrow hknown => frames_of_type_emitted_and_sent (type := .status) hrow hknown,
    fun _ _ b2 b3 b4 b6 h => windowValid_unknown_index h _ b2 b3 b4 _ b6,
    fun index => ⟨rfl, isKnownIndex_status hw index⟩⟩

/-- Settles O26: the rows of the type WRITE_REQUEST; on this hardware the code 2 and the parameter indices. -/
theorem writeRequestFramesAreEmittedAndSent : Obligations.WriteRequestFramesAreEmittedAndSent :=
  ⟨fun _ _ _ hrow hknown => frames_of_type_emitted_and_sent (type := .writeRequest) hrow hknown,
    fun _ _ b2 b3 b4 b6 h => windowValid_unknown_index h _ b2 b3 b4 _ b6,
    fun index => ⟨rfl, isKnownIndex_hw_param (type := .writeRequest) (by decide) index⟩⟩

/-- Settles O27: the rows of the type READ_REQUEST; on this hardware the code 3 and the parameter indices. -/
theorem readRequestFramesAreEmittedAndSent : Obligations.ReadRequestFramesAreEmittedAndSent :=
  ⟨fun _ _ _ hrow hknown => frames_of_type_emitted_and_sent (type := .readRequest) hrow hknown,
    fun _ _ b2 b3 b4 b6 h => windowValid_unknown_index h _ b2 b3 b4 _ b6,
    fun index => ⟨rfl, isKnownIndex_hw_param (type := .readRequest) (by decide) index⟩⟩

end Sys2Proof.Machine
end

section
/-! PROOFS. The causes of a rejection, and that nothing stops the block (60_exceptions.md R200 to R210,
93_implementation_defined.md U6): O23 and O58. -/

namespace Sys2Proof.Machine

open Sys2Proof.Config Sys2Proof.Safety

/-! ### The causes that the flags report -/

/-- The flag that a cause reports (R201 to R204). -/
def Cause.flag (f : FrameFlags) : Cause → Bool
  | .badStart => f.startOk
  | .badEnd => f.endOk
  | .badChecksum => f.cksumOk
  | .badMessage => f.msgOk

/-- A cause is reported exactly where its own flag fails, whatever the other three are (R210). -/
theorem mem_causesOf (cause : Cause) (f : FrameFlags) : cause ∈ causesOf f ↔ cause.flag f = false := by
  obtain ⟨start, endMarker, checksum, message⟩ := f
  revert start endMarker checksum message
  cases cause <;> decide

section

variable (c : WireConfig) (w : Bytes7)

theorem badStart_mem_causesOf : Cause.badStart ∈ causesOf (windowFlags c w) ↔ w.b0 ≠ c.start := by
  simp [mem_causesOf, Cause.flag, windowFlags_eq]

theorem badEnd_mem_causesOf : Cause.badEnd ∈ causesOf (windowFlags c w) ↔ w.b5 ≠ c.endMarker := by
  simp [mem_causesOf, Cause.flag, windowFlags_eq]

theorem badChecksum_mem_causesOf :
    Cause.badChecksum ∈ causesOf (windowFlags c w) ↔ w.b4 ≠ w.b1 ^^^ w.b2 ^^^ w.b3 := by
  simp [mem_causesOf, Cause.flag, windowFlags_eq]

theorem badMessage_mem_causesOf :
    Cause.badMessage ∈ causesOf (windowFlags c w) ↔ isKnownIndex c (idType w.b1) (idIndex w.b1) = false := by
  simp [mem_causesOf, Cause.flag, windowFlags_eq]

end

/-- On this hardware the id bytes that are not legal are those outside the list of R67 (R204). -/
theorem badMessage_mem_causesOf_hw (w : Bytes7) :
    Cause.badMessage ∈ causesOf (windowFlags hw w) ↔ w.b1 ∉ legalIdBytes := by
  rw [badMessage_mem_causesOf, mem_legalIdBytes, Bool.not_eq_true]

/-- The synchronizer fetches only at a start marker (R142). -/
theorem start_of_window {s : State} {p : Nat} {w : Bytes7} (h : s.window? = some (p, w)) : w.b0 = s.config.start := by
  rcases window_eq_some.1 h with hemit | hresync
  · obtain ⟨-, -, hscan⟩ := outcome_eq_some.1 hemit
    obtain ⟨hfound, hwindow, -⟩ := scan_emit.1 hscan
    exact windowAt_start hfound hwindow
  · obtain ⟨-, -, hscan⟩ := outcome_eq_some.1 hresync
    obtain ⟨hfound, hwindow, -⟩ := scan_resync.1 hscan
    exact windowAt_start hfound hwindow

/-! ### Which instructions answer a next state -/

/-- Every instruction but the conversion from an integer answers a next state, in every state. -/
theorem exec_next {i : Instr} (h : ∀ n signed, i ≠ .payloadFromInt n signed) (s : State) :
    ∃ t, exec i s = .next t := by
  cases hf : frameRow? i with
  | some r => exact ⟨_, exec_row hf s⟩
  | none =>
    cases i <;> try (cases hf; done) -- the frame rows, which `hf` excludes
    case payloadFromInt n signed => exact absurd rfl (h n signed)
    -- These four answer by the link, each case of it with a next state.
    case txSend | txSendClosed | linkOpen | linkClose =>
      simp only [exec, execTxSend, execTxSendClosed, execLinkOpen, execLinkClose]
      split <;> exact ⟨_, rfl⟩
    -- The bare message rows, the codecs, the synchronizer's steps and `RESET` are a function to a next state.
    all_goals exact ⟨_, rfl⟩

/-! ### The obligations -/

/-- Settles O23: each cause reads its own flag, and the flag is its condition on the bytes of the window. -/
theorem causesNameTheFailingConditions : Obligations.CausesNameTheFailingConditions :=
  ⟨fun c w => ⟨badStart_mem_causesOf c w, badEnd_mem_causesOf c w, badChecksum_mem_causesOf c w,
      badMessage_mem_causesOf c w⟩,
    badMessage_mem_causesOf_hw,
    fun s _ w hwindow hbad => (badStart_mem_causesOf s.config w).1 hbad (start_of_window hwindow)⟩

/-- Settles O58: only the conversion from an integer has an answer that is no next state, and only outside its range. -/
theorem onlyAnOutOfRangeConversionStops : Obligations.OnlyAnOutOfRangeConversionStops := by
  intro i s
  by_cases hconversion : ∃ n signed, i = .payloadFromInt n signed
  · obtain ⟨n, signed, rfl⟩ := hconversion
    cases hrange : inReading n signed with
    | true => exact .inl ⟨_, exec_payloadFromInt_inside s hrange⟩
    | false => exact .inr ⟨n, signed, rfl, hrange, exec_payloadFromInt_outside s hrange⟩
  · exact .inl (exec_next (fun n signed hi => hconversion ⟨n, signed, hi⟩) s)

end Sys2Proof.Machine
end

section
/-! PROOFS. The invariants of R33 hold after reset and are kept by every step (10_state.md section 5,
70_reset_and_hazards.md section 1): O50 to O52. Each elementary update keeps all of them, under the condition under
which a step makes it, so every chain of updates does. -/

namespace Sys2Proof.Machine

open Sys2Proof.Config Sys2Proof.Safety

/-! ### Sent frames and known messages -/

theorem sentFrames_nil (c : WireConfig) : SentFrames c [] := ⟨[], rfl⟩

/-- One `TX_SEND` more is one whole frame more (R51). -/
theorem sentFrames_append_sentBytes {c : WireConfig} {bs : List Byte} (h : SentFrames c bs) (type : TypeCode)
    (index : Index) (payload : Payload) : SentFrames c (bs ++ sentBytes c type index payload) := by
  obtain ⟨ms, rfl⟩ := h
  exact ⟨ms ++ [⟨type, index, payload⟩], by simp [sentBytes, frameOf]⟩

/-- The message of a valid window has a known index (R124). -/
theorem messageKnown_of_windowValid {c : WireConfig} {w : Bytes7} (h : windowValid c w = true) :
    messageKnown c (messageOf (unpackMessage c (windowMessage w))) := by
  obtain ⟨-, -, -, hknown⟩ := (windowValid_iff c w).1 h
  exact hknown

/-- An empty buffer is shorter than a frame, so a pass may end with it (R33 item 6). -/
theorem not_frameLen_le_nil {c : WireConfig} (hc : c.wf = true) : ¬ c.frameLen ≤ ([] : List Byte).length := by
  rw [frameLen_eq hc]; decide

/-! ### Each update of the state keeps the invariants -/

section

variable {s : State} (h : BlockInv s)

include h

theorem blockInv_reply (r : Result) (ls : List Label) : BlockInv (s.reply r ls) :=
  { h with }

theorem blockInv_withInbox (cs : List Command) : BlockInv { s with inbox := cs } :=
  { h with }

/-- New bytes go to the ends of the buffer and of its history alike (R141). -/
theorem blockInv_appendRx (hlink : s.link = .opened) (chunk : List Byte) : BlockInv (s.appendRx chunk) :=
  { h with
    cursor := fun _ => by
      obtain ⟨hbuf, hle⟩ := h.cursor hlink
      refine ⟨?_, by simp; omega⟩
      simp [hbuf, List.drop_append_of_le_length hle]
    closedEmpty := fun hclosed => Link.noConfusion (hlink.symm.trans hclosed)
    passEnded := Phase.noConfusion }

/-- A pass may end where no whole frame is left from a marker on (R143 to R145). -/
theorem blockInv_endPass (hlink : s.link = .opened)
    (hended : s.config.frameLen ≤ s.rxbuf.length →
      ∃ p, firstIndex s.config.start s.rxbuf = some p ∧ s.rxbuf.length - p < s.config.frameLen) :
    BlockInv s.endPass :=
  { h with
    closedEmpty := fun hclosed => Link.noConfusion (hlink.symm.trans hclosed)
    passEnded := fun _ => hended }

/-- Inside a pass the cursor moves with the bytes dropped, and never past the history (R146, R147). -/
theorem blockInv_dropHead (hlink : s.link = .opened) (hphase : s.phase = .scanning) {n : Nat}
    (hn : n ≤ s.rxbuf.length) : BlockInv (s.dropHead n) :=
  { h with
    cursor := fun _ => by
      obtain ⟨hbuf, hle⟩ := h.cursor hlink
      have hlen := congrArg List.length hbuf
      rw [List.length_drop] at hlen
      refine ⟨?_, by simp; omega⟩
      simp [hbuf, List.drop_drop]
    closedEmpty := fun hclosed => Link.noConfusion (hlink.symm.trans hclosed)
    passEnded := fun hrefill => Phase.noConfusion (hphase.symm.trans hrefill) }

/-- A known message enters a queue with room (R146). -/
theorem blockInv_pushMsg {m : Message} (hknown : messageKnown s.config m) (hroom : s.room = true) :
    BlockInv (s.pushMsg m) :=
  { h with
    queueKnown := fun m' hm => by
      rcases List.mem_append.1 hm with hqueued | hnew
      · exact h.queueKnown m' hqueued
      · exact List.mem_singleton.1 hnew ▸ hknown
    queueBound := fun cap hcap => by
      have hfree := room_iff.1 hroom cap hcap
      exact ⟨(h.queueBound cap hcap).1, by simp; omega⟩ }

theorem blockInv_popMsg : BlockInv s.popMsg :=
  { h with
    queueKnown := fun m hm => h.queueKnown m (List.mem_of_mem_drop hm)
    queueBound := fun cap hcap => by
      obtain ⟨hpos, hle⟩ := h.queueBound cap hcap
      exact ⟨hpos, by simp; omega⟩ }

theorem blockInv_transmit (type : TypeCode) (index : Index) (payload : Payload) :
    BlockInv (s.transmit (sentBytes s.config type index payload)) :=
  { h with sentWhole := sentFrames_append_sentBytes h.sentWhole type index payload }

theorem blockInv_openLink : BlockInv s.openLink :=
  { h with
    cursor := fun _ => ⟨rfl, Nat.le_refl 0⟩
    closedEmpty := Link.noConfusion
    passEnded := fun _ hle => absurd hle (not_frameLen_le_nil h.constants) }

theorem blockInv_closeLink (hphase : s.phase = .refill) : BlockInv s.closeLink :=
  { h with
    cursor := Link.noConfusion
    closedEmpty := fun _ => ⟨hphase, rfl⟩
    passEnded := fun _ hle => absurd hle (not_frameLen_le_nil h.constants) }

theorem blockInv_clearAll : BlockInv s.clearAll where
  cursor := Link.noConfusion
  queueKnown _ hm := absurd hm List.not_mem_nil
  sentWhole := sentFrames_nil s.config
  queueBound cap hcap := ⟨(h.queueBound cap hcap).1, Nat.zero_le cap⟩
  closedEmpty _ := ⟨rfl, rfl⟩
  passEnded _ hle := absurd hle (not_frameLen_le_nil h.constants)
  constants := h.constants

end

/-- Discarding the buffer is dropping all of it (R144). -/
theorem discardAll_eq_dropHead (s : State) : s.discardAll = s.dropHead s.rxbuf.length := by
  simp [State.discardAll, State.dropHead]

/-- Every elementary update keeps the invariants of R33. -/
theorem Update.blockInv {i : Instr} {s u : State} (hu : Update i s u) (h : BlockInv s) : BlockInv u := by
  cases hu with
  | append chunk _ hrefill => exact blockInv_appendRx h (canRefill_iff.1 hrefill).1 chunk
  | short _ ho =>
    obtain ⟨hlink, -, hs⟩ := outcome_eq_some.1 ho
    exact blockInv_endPass h hlink fun hle => absurd (scan_short.1 hs) (Nat.not_lt.2 hle)
  | discard _ ho =>
    obtain ⟨hlink, hphase, -⟩ := outcome_eq_some.1 ho
    have hdropped : BlockInv s.discardAll := discardAll_eq_dropHead s ▸ blockInv_dropHead h hlink hphase le_rfl
    exact blockInv_endPass hdropped hlink fun hle => absurd hle (not_frameLen_le_nil h.constants)
  | wait p _ ho =>
    obtain ⟨hlink, -, hs⟩ := outcome_eq_some.1 ho
    obtain ⟨-, hfound, hwindow⟩ := scan_wait.1 hs
    have hp := firstIndex_lt hfound
    have hrest := (windowAt_none_wf h.constants).1 hwindow
    exact blockInv_endPass h hlink fun _ => ⟨p, hfound, by omega⟩
  | take p w _ ho hroom =>
    obtain ⟨hlink, hphase, hs⟩ := outcome_eq_some.1 ho
    obtain ⟨-, hwindow, hvalid⟩ := scan_emit.1 hs
    obtain ⟨hwhole, -⟩ := windowAt_length hwindow
    exact blockInv_dropHead (blockInv_pushMsg h (messageKnown_of_windowValid hvalid) hroom) hlink hphase hwhole
  | reject p w _ ho =>
    obtain ⟨hlink, hphase, hs⟩ := outcome_eq_some.1 ho
    exact blockInv_dropHead h hlink hphase (firstIndex_lt (scan_resync.1 hs).1)
  | pop m ms _ _ => exact blockInv_popMsg h
  | send type index payload _ _ => exact blockInv_transmit h type index payload
  | opens _ _ => exact blockInv_openLink h
  | closes _ _ hphase => exact blockInv_closeLink h hphase
  | clears _ => exact blockInv_clearAll h

theorem kept_blockInv (i : Instr) : Kept i BlockInv where
  reply _ r ls h := blockInv_reply h r ls
  update _ _ h hu := hu.blockInv h

/-! ### The obligations -/

/-- Settles O52: the updates of every instruction, the recording of outputs and the taking of inputs keep the
invariants. -/
theorem stepKeepsTheInvariants : Obligations.StepKeepsTheInvariants :=
  fun _ _ h hstep => step_keeps (fun _ cs hs => blockInv_withInbox hs cs) kept_blockInv hstep h

/-- Settles O50: the values that R231 writes out; the parameter indices of this hardware are an interval. -/
theorem stateAfterReset : Obligations.StateAfterReset :=
  ⟨rfl, rfl, rfl, rfl, rfl, rfl, rfl, rfl, rfl, rfl, rfl, rfl, rfl, rfl, rfl, rfl, rfl, rfl, mem_paramIndex_hw, rfl⟩

/-- Settles O51: after reset the link is closed, the queue is unbounded and every sequence is empty. -/
theorem resetSatisfiesTheInvariants : Obligations.ResetSatisfiesTheInvariants where
  cursor := Link.noConfusion
  queueKnown _ hm := absurd hm List.not_mem_nil
  sentWhole := sentFrames_nil hw
  queueBound _ hcap := nomatch hcap
  closedEmpty _ := ⟨rfl, rfl⟩
  passEnded _ hle := absurd hle (not_frameLen_le_nil hw_wf)
  constants := hw_wf

end Sys2Proof.Machine
end

section
/-! PROOFS. The second spelling of a frame means what the row that the decoder answers means (30_encoding.md section 3,
44_wire_messages.md): O3. The meaning of a frame row is a function of its fields, which the two spellings share. -/

namespace Sys2Proof.Machine

open Sys2Proof.Config Sys2Proof.Safety

/-- What a frame row does is a function of its fields alone (R185 to R188). -/
theorem exec_eq_of_frameFields {i j : Instr} {s : State} {f : FrameFields} (hi : frameFields? s.config i = some f)
    (hj : frameFields? s.config j = some f) : exec i s = exec j s := by
  rw [exec_frame hi, exec_frame hj]

/-- The decoder reads the bytes of a row to a frame row with the same fields, or to the same bare message row. -/
theorem decode_encode_cases {c : WireConfig} (hc : c.wf = true) {i j : Instr} {bytes : List Byte}
    (hi : encode c i = some bytes) (hj : decode c bytes = .ok j) :
    (∃ f, frameFields? c i = some f ∧ frameFields? c j = some f) ∨ j = i := by
  rcases encode_eq_some hi with ⟨f, hf, rfl⟩ | ⟨m, hm, rfl⟩
  · rw [decode_bytes7List, decodeFrame_rowWindow] at hj
    obtain rfl : idRow c f = j := Except.ok.inj hj
    exact .inl ⟨f, hf, frameFields_idRow hc f⟩
  · rw [decode_bytes3List, decodeMessage, messageOf_unpackMessage_packMessage] at hj
    obtain rfl : messageRow c m = j := Except.ok.inj hj
    exact .inr (messageRow_of_packedMessage hc hm)

/-- Settles O3: the two rows have the same fields, or are the same row. -/
theorem secondSpellingMeansTheSame : Obligations.SecondSpellingMeansTheSame := by
  intro i j bytes s hc hi hj
  rcases decode_encode_cases hc hi hj with ⟨f, hfi, hfj⟩ | rfl
  · exact exec_eq_of_frameFields hfi hfj
  · rfl

end Sys2Proof.Machine
end

section
/-! PROOFS. Which instructions write each field of the state (10_state.md R20, column "Written by"; R29): O53. It is
read off the elementary updates: each of them names the instructions that ask for it. -/

namespace Sys2Proof.Machine

open Sys2Proof.Safety

/-- What every update of an instruction leaves, unless the instruction is one of the writers, the instruction leaves. -/
theorem exec_writers {α : Type} {g : State → α} {writer : Prop} {i : Instr}
    (hreply : ∀ s r ls, g (s.reply r ls) = g s) (hupdate : ∀ {s u}, Update i s u → g u = g s ∨ writer) {s t : State}
    (h : exec i s = .next t) (hchanged : g t ≠ g s) : writer := by
  by_contra hw
  have hkept : Kept i (fun u => g u = g s) :=
    { reply := fun u r ls hu => (hreply u r ls).trans hu
      update := fun u v hu huv => ((hupdate huv).resolve_right hw).trans hu }
  exact hchanged (exec_keeps hkept h rfl)

theorem isRefill_iff {i : Instr} : isRefill i = true ↔ ∃ chunk, i = .rxAppend chunk ∨ i = .rxPass chunk := by
  unfold isRefill
  split <;> simp_all

/-! ### The writers of each field, update by update -/

section

variable {i : Instr} {s u : State} (hu : Update i s u)

include hu

theorem Update.link_writers : u.link = s.link ∨ i = .reset ∨ i = .linkOpen true ∨ i = .linkClose := by
  cases hu with
  | opens hi | closes hi | clears hi => simp [hi]
  | append | short | discard | wait | take | reject | pop | send => exact .inl rfl

theorem Update.phase_writers :
    u.phase = s.phase ∨ isRefill i = true ∨ isScan i = true ∨ i = .reset ∨ i = .linkOpen true := by
  cases hu with
  | append chunk hi => exact .inr (.inl (isRefill_iff.2 ⟨chunk, hi⟩))
  | short hi | discard hi | wait p hi | opens hi | clears hi => simp [hi]
  | take | reject | pop | send | closes => exact .inl rfl

theorem Update.rxbuf_writers : u.rxbuf = s.rxbuf ∨
    isRefill i = true ∨ isScan i = true ∨ i = .reset ∨ i = .linkOpen true ∨ i = .linkClose := by
  cases hu with
  | append chunk hi => exact .inr (.inl (isRefill_iff.2 ⟨chunk, hi⟩))
  | discard hi | take p w hi | reject p w hi | opens hi | closes hi | clears hi => simp [hi]
  | short | wait | pop | send => exact .inl rfl

theorem Update.msgq_writers : u.msgq = s.msgq ∨ isScan i = true ∨ i = .msgqPop ∨ i = .reset := by
  cases hu with
  | take p w hi | pop m ms hi | clears hi => simp [hi]
  | append | short | discard | wait | reject | send | opens | closes => exact .inl rfl

theorem Update.txstream_writers :
    u.txstream = s.txstream ∨ (∃ type index payload, i = .txSend type index payload) ∨ i = .reset := by
  cases hu with
  | send type index payload hi | clears hi => simp [hi]
  | append | short | discard | wait | take | reject | pop | opens | closes => exact .inl rfl

theorem Update.rxhist_writers : u.rxhist = s.rxhist ∨ isRefill i = true ∨ i = .reset ∨ i = .linkOpen true := by
  cases hu with
  | append chunk hi => exact .inr (.inl (isRefill_iff.2 ⟨chunk, hi⟩))
  | opens hi | clears hi => simp [hi]
  | short | discard | wait | take | reject | pop | send | closes => exact .inl rfl

theorem Update.consumed_writers : u.consumed = s.consumed ∨ isScan i = true ∨ i = .reset ∨ i = .linkOpen true := by
  cases hu with
  | discard hi | take p w hi | reject p w hi | opens hi | clears hi => simp [hi]
  | append | short | wait | pop | send | closes => exact .inl rfl

theorem Update.emitted_writers : u.emitted = s.emitted ∨ isScan i = true ∨ i = .reset ∨ i = .linkOpen true := by
  cases hu with
  | take p w hi | opens hi | clears hi => simp [hi]
  | append | short | discard | wait | reject | pop | send | closes => exact .inl rfl

/-- The parameters and the inputs have no writer (R29; log entries 5, 14, 19). -/
theorem Update.parameters_eq : u.msgqCap = s.msgqCap ∧ u.config = s.config ∧ u.inbox = s.inbox := by
  cases hu <;> exact ⟨rfl, rfl, rfl⟩

end

theorem kept_parameters (i : Instr) (s : State) :
    Kept i (fun t => t.msgqCap = s.msgqCap ∧ t.config = s.config ∧ t.inbox = s.inbox) where
  reply _ _ _ h := h
  update u v h huv := by
    obtain ⟨hcap, hconfig, hinbox⟩ := huv.parameters_eq
    rwa [hcap, hconfig, hinbox]

/-! ### The obligation -/

/-- Settles O53: every field has the writers of its updates, and the parameters and the inputs have none. -/
theorem fieldsHaveOnlyTheirWriters : Obligations.FieldsHaveOnlyTheirWriters := by
  intro i s t h
  refine ⟨?link, ?phase, ?rxbuf, ?msgq, ?txstream, ?rxhist, ?consumed, ?emitted,
    exec_keeps (kept_parameters i s) h ⟨rfl, rfl, rfl⟩⟩
  case link => exact exec_writers reply_link Update.link_writers h
  case phase => exact exec_writers reply_phase Update.phase_writers h
  case rxbuf => exact exec_writers reply_rxbuf Update.rxbuf_writers h
  case msgq => exact exec_writers reply_msgq Update.msgq_writers h
  case txstream => exact exec_writers reply_txstream Update.txstream_writers h
  case rxhist => exact exec_writers reply_rxhist Update.rxhist_writers h
  case consumed => exact exec_writers reply_consumed Update.consumed_writers h
  case emitted => exact exec_writers reply_emitted Update.emitted_writers h

end Sys2Proof.Machine
end

section
/-! PROOFS. Which operations are enabled, and that exactly the others hold (60_exceptions.md R216, 00_scope.md R11): O56
and O57. `RX_SCAN` is looked at once; an outcome row or a frame row is `RX_SCAN` where it applies, and is neither
enabled nor run elsewhere. -/

namespace Sys2Proof.Machine

open Sys2Proof.Config Sys2Proof.Safety

/-- The instruction holds where it is not enabled, and does not where it is (R11; log entry 3). -/
structure HoldsUnlessEnabled (i : Instr) (s : State) : Prop where
  held : enabled i s = false → exec i s = .next s.hold
  ran : enabled i s = true → ∀ t, exec i s = .next t → t.result ≠ .hold

section

variable {i : Instr} {s : State}

/-- An instruction that is enabled and answers another result. -/
theorem HoldsUnlessEnabled.of_ran {t : State} (he : enabled i s = true) (h : exec i s = .next t)
    (hresult : t.result ≠ .hold) : HoldsUnlessEnabled i s where
  held hd := by rw [he] at hd; cases hd
  ran _ u hu := by rw [h] at hu; cases hu; exact hresult

/-- An instruction that is not enabled and holds. -/
theorem HoldsUnlessEnabled.of_held (he : enabled i s = false) (h : exec i s = .next s.hold) :
    HoldsUnlessEnabled i s where
  held _ := h
  ran hd := by rw [he] at hd; cases hd

theorem HoldsUnlessEnabled.congr {j : Instr} (h : HoldsUnlessEnabled j s) (he : enabled i s = enabled j s)
    (hx : exec i s = exec j s) : HoldsUnlessEnabled i s where
  held hd := hx.trans (h.held (he ▸ hd))
  ran hd := hx ▸ h.ran (he ▸ hd)

/-! ### `RX_SCAN`, and the rows that are `RX_SCAN` where they apply -/

/-- A scan step that is not enabled holds: outside a pass, or before an EMIT without room (R142, R150). -/
theorem scanStep_of_canScan_false (h : s.canScan = false) : scanStep s = s.hold := by
  cases hpass : s.inPass with
  | false => exact scanStep_held hpass
  | true =>
    obtain ⟨hroom, p, w, hemit⟩ := emit_held_of_canScan_false hpass h
    obtain ⟨hlink, hphase⟩ := inPass_iff.1 hpass
    have ho : s.outcome? = some (.emit p w) := outcome_eq_some.2 ⟨hlink, hphase, hemit⟩
    rw [scanStep_outcome ho, applyOutcome, takeFrame_full hroom]

theorem holdsUnlessEnabled_rxScan (s : State) : HoldsUnlessEnabled .rxScan s := by
  cases hscan : s.canScan with
  | false => exact .of_held hscan (congrArg Host.Outcome.next (scanStep_of_canScan_false hscan))
  | true => exact .of_ran hscan (exec_rxScan s) (by rw [scanStep_result hscan]; exact Result.noConfusion)

/-- An outcome row is enabled, where its outcome applies, as `RX_SCAN` is (log entry 11). -/
theorem enabled_outcomeRow {o : ScanOutcome} (h : s.outcome? = some o) :
    enabled (outcomeRow o) s = enabled .rxScan s := by
  cases o <;> simp [outcomeRow, enabled, State.canScan, h]

/-- The five outcome rows (R143 to R147). -/
def outcomeRows : List Instr := [.rxScanShort, .rxScanDiscard, .rxScanWait, .rxScanEmit, .rxScanResync]

theorem mem_outcomeRows : i ∈ outcomeRows ↔
    i = .rxScanShort ∨ i = .rxScanDiscard ∨ i = .rxScanWait ∨ i = .rxScanEmit ∨ i = .rxScanResync := by
  simp [outcomeRows]

section

variable (hi : i ∈ outcomeRows) (h : ∀ o, s.outcome? = some o → outcomeRow o ≠ i)

include hi h

/-- Where its outcome does not apply, an outcome row is not enabled (log entry 11). -/
theorem enabled_other_outcomeRow : enabled i s = false := by
  rcases mem_outcomeRows.1 hi with rfl | rfl | rfl | rfl | rfl
  case inl | inr.inl => exact beq_false_of_ne fun ho => h _ ho rfl -- SHORT and DISCARD
  all_goals
    simp only [enabled]
    split
    next ho => exact absurd rfl (h _ ho)
    next => rfl

/-- Where its outcome does not apply, an outcome row holds (log entry 11). -/
theorem exec_other_outcomeRow : exec i s = .next s.hold := by
  rcases mem_outcomeRows.1 hi with rfl | rfl | rfl | rfl | rfl
  all_goals
    refine congrArg Host.Outcome.next ?_
    split
    next ho => exact absurd rfl (h _ ho)
    next => rfl

end

theorem holdsUnlessEnabled_outcomeRow (hi : i ∈ outcomeRows) (s : State) : HoldsUnlessEnabled i s := by
  by_cases happlies : ∃ o, s.outcome? = some o ∧ outcomeRow o = i
  · obtain ⟨o, ho, rfl⟩ := happlies
    exact (holdsUnlessEnabled_rxScan s).congr (enabled_outcomeRow ho) (exec_rxScan_eq_outcomeRow ho).symm
  · have hother : ∀ o, s.outcome? = some o → outcomeRow o ≠ i := fun o ho hrow => happlies ⟨o, ho, hrow⟩
    exact .of_held (enabled_other_outcomeRow hi hother) (exec_other_outcomeRow hi hother)

/-- A frame row is enabled, at its own window, as `RX_SCAN` is (log entry 9). -/
theorem frameEnabled_window {p : Nat} {f : FrameFields} (h : s.window? = some (p, rowWindow s.config f)) :
    frameEnabled f s = s.canScan := by
  have ho := window_outcome h
  cases hv : windowValid s.config (rowWindow s.config f) <;> simp [frameEnabled, State.canScan, h, hv, ho]

theorem frameEnabled_of_other_window {f : FrameFields} (h : ∀ p, s.window? ≠ some (p, rowWindow s.config f)) :
    frameEnabled f s = false := by
  unfold frameEnabled
  split
  next p w hw =>
    have hother : w ≠ rowWindow s.config f := fun e => h p (e ▸ hw)
    simp [hother]
  next => rfl

theorem holdsUnlessEnabled_frameRow {r : FrameRow} (h : frameRow? i = some r) (s : State) :
    HoldsUnlessEnabled i s := by
  have hf : frameFields? s.config i = some (rowFields s.config r) := frameFields_eq_some.2 ⟨r, h, rfl⟩
  by_cases hcursor : ∃ p, s.window? = some (p, rowWindow s.config (rowFields s.config r))
  · obtain ⟨p, hw⟩ := hcursor
    refine (holdsUnlessEnabled_rxScan s).congr ((enabled_frame hf).trans (frameEnabled_window hw)) ?_
    rw [exec_frame hf, receiveFrame_eq_scanStep hw, exec_rxScan]
  · have hother := not_exists.1 hcursor
    refine .of_held ((enabled_frame hf).trans (frameEnabled_of_other_window hother)) ?_
    rw [exec_frame hf, receiveFrame_held hother]

/-! ### The other instructions -/

theorem holdsUnlessEnabled_rxAppend (chunk : List Byte) (s : State) : HoldsUnlessEnabled (.rxAppend chunk) s := by
  cases hrefill : s.canRefill with
  | false => exact .of_held hrefill (by simp only [exec, execRxAppend, hrefill, Bool.false_eq_true, if_false])
  | true => exact .of_ran hrefill (exec_rxAppend chunk hrefill) Result.noConfusion

theorem holdsUnlessEnabled_msgqPop (s : State) : HoldsUnlessEnabled .msgqPop s := by
  cases hq : s.msgq with
  | nil => exact .of_held (by simp [enabled, State.messageReady, hq]) (congrArg Host.Outcome.next (popStep_nil hq))
  | cons m ms =>
    exact .of_ran (by simp [enabled, State.messageReady, hq]) (congrArg Host.Outcome.next (popStep_cons hq))
      Result.noConfusion

theorem holdsUnlessEnabled_txSend (type : TypeCode) (index : Index) (payload : Payload) (s : State) :
    HoldsUnlessEnabled (.txSend type index payload) s := by
  cases hlink : s.link with
  | opened => exact .of_ran rfl (exec_txSend_opened hlink type index payload) Result.noConfusion
  | closed => exact .of_ran rfl (exec_txSend_closed hlink type index payload) Result.noConfusion

/-- With the link open `TX_SEND` applies, and the row of its closed-link case holds (R170, R171). -/
theorem holdsUnlessEnabled_txSendClosed (type : TypeCode) (index : Index) (payload : Payload) (s : State) :
    HoldsUnlessEnabled (.txSendClosed type index payload) s := by
  cases hlink : s.link with
  | opened => exact .of_held (by simp [enabled, hlink]) (by simp only [exec, execTxSendClosed, hlink])
  | closed =>
    exact (holdsUnlessEnabled_txSend type index payload s).congr (by simp [enabled, hlink])
      (exec_txSendClosed_eq_txSend hlink type index payload)

theorem holdsUnlessEnabled_linkOpen (answer : Bool) (s : State) : HoldsUnlessEnabled (.linkOpen answer) s := by
  cases hlink : s.link with
  | opened => exact .of_ran rfl (exec_linkOpen_opened hlink answer) Result.noConfusion
  | closed =>
    cases answer with
    | false => exact .of_ran rfl (exec_linkOpen_refused hlink) Result.noConfusion
    | true => exact .of_ran rfl (exec_linkOpen_granted hlink) Result.noConfusion

theorem holdsUnlessEnabled_linkClose (s : State) : HoldsUnlessEnabled .linkClose s := by
  cases hlink : s.link with
  | closed => exact .of_ran (by simp [enabled, hlink]) (exec_linkClose_closed hlink) Result.noConfusion
  | opened =>
    cases hphase : s.phase with
    | refill =>
      exact .of_ran (by simp [enabled, hphase]) (exec_linkClose_refill hlink hphase) Result.noConfusion
    | scanning => exact .of_held (by simp [enabled, hlink, hphase]) (exec_linkClose_scanning hlink hphase)

/-- A conversion is enabled always, and outside its range it answers no next state (R105). -/
theorem holdsUnlessEnabled_payloadFromInt (n : Int) (signed : Bool) (s : State) :
    HoldsUnlessEnabled (.payloadFromInt n signed) s := by
  cases hrange : inReading n signed with
  | true => exact .of_ran rfl (exec_payloadFromInt_inside s hrange) Result.noConfusion
  | false =>
    refine ⟨nofun, fun _ t ht => ?_⟩
    rw [exec_payloadFromInt_outside s hrange] at ht
    cases ht

/-- Every instruction but `RX_PASS`, which may be held on its way, holds exactly where it is not enabled. -/
theorem holdsUnlessEnabled_of_ne_rxPass (hpass : ∀ chunk, i ≠ .rxPass chunk) (s : State) :
    HoldsUnlessEnabled i s := by
  cases hf : frameRow? i with
  | some r => exact holdsUnlessEnabled_frameRow hf s
  | none =>
    cases i <;> try (cases hf; done) -- the frame rows, which `hf` excludes
    case rxAppend chunk => exact holdsUnlessEnabled_rxAppend chunk s
    case rxScan => exact holdsUnlessEnabled_rxScan s
    case rxScanShort | rxScanDiscard | rxScanWait | rxScanEmit | rxScanResync =>
      exact holdsUnlessEnabled_outcomeRow (by simp [mem_outcomeRows]) s
    case rxPass chunk => exact absurd rfl (hpass chunk)
    case msgqPop => exact holdsUnlessEnabled_msgqPop s
    case txSend type index payload => exact holdsUnlessEnabled_txSend type index payload s
    case txSendClosed type index payload => exact holdsUnlessEnabled_txSendClosed type index payload s
    case linkOpen answer => exact holdsUnlessEnabled_linkOpen answer s
    case linkClose => exact holdsUnlessEnabled_linkClose s
    case payloadFromInt n signed => exact holdsUnlessEnabled_payloadFromInt n signed s
    -- The bare message rows, the codecs and `RESET` are always enabled and answer something else.
    all_goals exact .of_ran rfl rfl Result.noConfusion

/-! ### A pass -/

/-- With an unbounded queue a pass is not held on its way: its scan steps end it (R148, R150). -/
theorem passStep_result {chunk : List Byte} (hc : s.config.wf = true) (hcap : s.msgqCap = none)
    (hrefill : s.canRefill = true) : (passStep chunk s).result = .none := by
  obtain ⟨a, ha⟩ : ∃ a, (s.appendRx chunk).reply .none [] = a := ⟨_, rfl⟩
  have hopened : a.link = .opened := by rw [← ha]; exact (canRefill_iff.1 hrefill).1
  have hunbounded : a.msgqCap = none := by rw [← ha]; exact hcap
  obtain ⟨k, hk, hpass⟩ := passStep_eq_scans hc hrefill ha
  rw [hpass, reply_result]
  rcases hk.outcome hopened with hended | ⟨-, hfull, -⟩
  · exact if_pos hended
  · obtain ⟨cap, hbounded, -⟩ := room_false_iff.1 hfull
    rw [hk.msgqCap, hunbounded] at hbounded
    cases hbounded

theorem holdsUnlessEnabled_rxPass {chunk : List Byte} (hfree : s.msgqCap = none ∧ s.config.wf = true) :
    HoldsUnlessEnabled (.rxPass chunk) s := by
  obtain ⟨hcap, hc⟩ := hfree
  cases hrefill : s.canRefill with
  | false => exact .of_held hrefill (congrArg Host.Outcome.next (passStep_held hrefill chunk))
  | true => exact .of_ran hrefill rfl (by rw [passStep_result hc hcap hrefill]; exact Result.noConfusion)

theorem exec_rxPass_held (chunk : List Byte) (h : s.canRefill = false) : exec (.rxPass chunk) s = .next s.hold :=
  congrArg Host.Outcome.next (passStep_held h chunk)

end

/-! ### Which modes enable a refill, a scan step and the close (R216) -/

section

variable {s : State}

theorem canRefill_closed (hlink : s.link = .closed) : s.canRefill = false := by
  simp [State.canRefill, hlink]

theorem canScan_closed (hlink : s.link = .closed) : s.canScan = false := by
  simp [State.canScan, State.outcome?, State.inPass, hlink]

/-- Inside a pass only a full queue stands in the way of a scan step (R150). -/
theorem canScan_of_unbounded (hlink : s.link = .opened) (hphase : s.phase = .scanning) (hcap : s.msgqCap = none) :
    s.canScan = true :=
  canScan_of_outcome (outcome_of_scan hlink hphase) (.inl (room_iff.2 fun cap h => by rw [hcap] at h; cases h))

theorem enabled_linkClose : enabled .linkClose s = true ↔ s.link = .closed ∨ s.phase = .refill :=
  decide_eq_true_iff

end

/-! ### The obligations -/

/-- Settles O56: an instruction that is no pass holds exactly where it is not enabled; a pass, where its queue is
unbounded. -/
theorem holdsExactlyWhereNotEnabled : Obligations.HoldsExactlyWhereNotEnabled := by
  intro i s
  by_cases hpass : ∃ chunk, i = .rxPass chunk
  · obtain ⟨chunk, rfl⟩ := hpass
    exact ⟨exec_rxPass_held chunk, fun he hfree => (holdsUnlessEnabled_rxPass (hfree chunk rfl)).ran he⟩
  · have h := holdsUnlessEnabled_of_ne_rxPass (not_exists.1 hpass) s
    exact ⟨h.held, fun he _ => h.ran he⟩

/-- Settles O57: each mode against the enabling condition of its operations; with an unbounded queue there is always
room, so a scan step inside a pass is enabled. -/
theorem modesEnableTheirOperations : Obligations.ModesEnableTheirOperations := by
  intro s chunk answer type index payload
  refine ⟨fun hlink => ?closed, fun hlink => ?opened, ?pop, rfl, rfl, rfl⟩
  case closed =>
    exact ⟨canRefill_closed hlink, canScan_closed hlink, enabled_linkClose.2 (.inl hlink), decide_eq_true hlink⟩
  case opened =>
    refine ⟨?append, fun h => (inPass_iff.1 (inPass_of_canScan h)).2, canScan_of_unbounded hlink, ?close⟩
    case append => exact canRefill_iff.trans (and_iff_right hlink)
    case close => exact enabled_linkClose.trans (or_iff_right (by rw [hlink]; exact Link.noConfusion))
  case pop => simp [enabled, State.messageReady]

end Sys2Proof.Machine
end
